-- ==== Sys2Proof/Word.lean ====
section
/-! DEFINITION. The one word type of the model: the byte of the yard line and of the field link (spec chapter 12). -/

namespace Sys2Proof

/-- A byte of a frame body or of a field message. -/
abbrev Byte := BitVec 8

end Sys2Proof
end

