-- ==== Sys2Proof/Syntax.lean ====
section
/-! DEFINITION. The commands of the part: one constructor of `Instr` per row of spec/opcode_table.json, with the row's
operands. Operands that stand for bytes of a field message are the byte values as received (section 12.5); a received
frame carries its fields, its body bytes, its two slots as the other stations drove them and its end as read (section
12.1). A bit of the line is `true` where it is recessive, 1 (R39). -/

namespace Sys2Proof

/-- The four link rates that the two strap pins select (R183). -/
inductive LinkRate where
  | kbit19_2 | kbit57_6 | kbit115_2 | kbit230_4
  deriving DecidableEq, Repr

/-- A tag as a field message carries it, before its codes are read and its values clamped (section 12.5). -/
structure RawTag where
  fleet : Nat
  fuel : Nat
  lengthClass : Nat
  serviceClass : Nat
  energy : Nat
  washDue : Nat
  deriving DecidableEq, Repr

/-- A frame read to its end, whose check passed (R40, R41). `ack` and `flaw` say whether another station drove the
acknowledgement slot and the flaw slot dominant (R46, R47); `endBits` are the eight bits of the end field as read, which is
not checked (R40): 255 where all are recessive. -/
structure RxFrame where
  node : Nat
  addressee : Nat
  cost : Nat
  item : Nat
  body : List Byte
  ack : Bool
  flaw : Bool
  endBits : Byte
  deriving DecidableEq, Repr

/-- A frame read to its end, whose check failed, a framing fault included (R40, R42): its bits as read, start bit to check,
and its slots and end as for `RxFrame`. -/
structure FlawedFrame where
  bits : List Bool
  ack : Bool
  flaw : Bool
  endBits : Byte
  deriving DecidableEq, Repr

/-- The reader end and the direction byte of a LANE READ (section 12.5). -/
structure ReadSide where
  readerEnd : Nat
  direction : Nat
  deriving DecidableEq, Repr

/-- A frame of a kind that no block uses, with its kind code (R41). -/
structure UnusedFrame where
  kind : Nat
  frame : RxFrame
  deriving DecidableEq, Repr

/-- The two slots of this node's own frame as it reads them, `true` where one is dominant (R46 to R48). `rest` are the bits
that it reads before them on a frame it has abandoned, from the bit after the echo fault on (R39, R45); on another frame it
reads what it sends, and they say nothing. -/
structure Slots where
  ack : Bool
  flaw : Bool
  rest : List Bool
  deriving DecidableEq, Repr

/-- One command: one row of spec/opcode_table.json. -/
inductive Instr where
  -- resets and settings
  | powerOnReset (straps : LinkRate)
  | externalReset (straps : LinkRate)
  | config (body : List Byte)
  -- field messages
  | gateArrival (tag : RawTag)
  -- a LANE READ is the first of these two where its direction byte is not OUT
  | laneEntryRead (lane : Nat) (side : ReadSide) (tag : RawTag)
  | laneExitRead (lane readerEnd fleet : Nat)
  | approachRead (fleet : Nat)
  | stationStart (station fleet : Nat)
  | stationEnd (station fleet endKind energy : Nat)
  | stationClear (station : Nat)
  | pointOpen
  | pointClose
  | levelHold (level : Nat)
  | levelRelease (level : Nat)
  | nextRequest
  | laneHold (lane : Nat)
  | laneOpen (lane : Nat)
  | census (lane : Nat) (lines : List (Nat × Nat))
  | clearCounters
  | clearLost
  | statusRequest
  -- field link events; `kind` is the kind byte read, 0 if none was (R195)
  | malformedMessage (kind : Nat)
  | inputOverflow
  | linkByteDiscarded
  | messageGapTimeout (kind : Nat)
  | outputLineFree
  -- frames heard on the yard line
  | timeMarkReceived (frame : RxFrame)
  | slotCallReceived (frame : RxFrame)
  | berthCallReceived (frame : RxFrame)
  | fuelCallReceived (frame : RxFrame)
  | washCallReceived (frame : RxFrame)
  | whereaboutsReceived (frame : RxFrame)
  | offerReceived (frame : RxFrame)
  | transferReceived (frame : RxFrame)
  | releaseReceived (frame : RxFrame)
  | heldReceived (frame : RxFrame)
  | departNoticeReceived (frame : RxFrame)
  | queryReceived (frame : RxFrame)
  | statusFrameReceived (frame : RxFrame)
  | nodeClaimReceived (frame : RxFrame)
  | unusedKindFrame (frame : UnusedFrame)
  | flawedFrameReceived (frame : FlawedFrame)
  -- the node's own sending; `bit` is the frame's bit, numbered from 1, the start bit (section 12.1)
  | transmitStart
  | windowFirstBit (otherStarts : Bool)
  | lostContention
  | echoFault (bit : Nat)
  | ownFrameVerdict (slots : Slots) (endBits : Byte)
  -- line states
  | joiningComplete
  | lineLost
  | lostEnd
  | standDownExpiry
  | listeningPeriodExpiry
  | confirmPeriodExpiry
  -- timers
  | spacingTimerExpiry
  | exchangeWaitExpiry (exchange : Nat)
  | reservationTimeout (caller exchange : Nat)
  | questionWaitExpiry (record : Nat)
  | answerTimerExpiry (record : Nat)
  | answerWaitExpiry (record : Nat)
  | noticeWaitExpiry
  | whereaboutsMemoryExpiry (fleet asker : Nat)
  | inboundLimitExpiry (record : Nat)
  | looseLimitExpiry (record : Nat)
  | apronRepeat (record : Nat)
  | doubledRepeat (record : Nat)
  | gateHoldExpiry
  | grantLimitExpiry (station : Nat)
  | overrunLimitExpiry (station : Nat)
  | awardTimerExpiry (slot : Nat)
  | digTimerExpiry (lane : Nat)
  | minuteTick
  deriving DecidableEq, Repr

end Sys2Proof
end

