-- ==== Sys2Proof/Decode.lean ====
section
/-! DEFINITION. The command that a word spells by the opcode table's bits. No row of spec/opcode_table.json gives bits: the
part has no instruction word, its commands arrive as messages, frames and events. So no word spells a command. -/

namespace Sys2Proof

/-- The command spelt by the table's bits; no row gives bits (spec/opcode_table.json: every row's fields are empty). -/
def decodeTableWord (_nbits _w : Nat) : Option Instr := none

end Sys2Proof
end

