-- ==== Sys2Proof/Config.lean ====
section
/-! DEFINITION. What the spec fixes for every part (durations and capacities that are no settings), and the one free
value: the codes that section 12.2 does not list. -/

namespace Sys2Proof

/-- The values that reports and status parts carry and for which section 12.2 lists no code (log entry 6). -/
inductive UnlistedCode where
  | linkRate (strap : Fin 4)
  | gateIdle | gateHolding
  | washOpen | washClosed
  | resetPowerOn | resetExternal
  | configured | claimed
  | muteSendFailures | muteFlaws
  | faultNonFrontExit | faultRearExit | faultMoved | faultGiveWay | faultTaken
  | callBerth | callFuel | callWash | callNone
  | serviceFuel | serviceWash
  | destinationFuel | destinationWash
  | digTargetFront | digTargetDeparted | digTargetWithdrawn | digTargetRead
  | digShuntFailed | digLimit | digOrderFault | digEntryAhead
  | setting (position : Nat)
  deriving DecidableEq, Repr

/-- The byte that stands for a value whose code the spec does not list. A free value (log entry 6): no body, so nothing
can be proved of it. -/
opaque Config.unlistedCode : UnlistedCode → Byte

/-- The inbound limit of 15 minutes, in ms (R11). -/
def Config.inboundLimit : Nat := 15 * 60 * 1000

/-- The loose limit of 30 minutes, in ms (R12). -/
def Config.looseLimit : Nat := 30 * 60 * 1000

/-- The stand-down of 2 s, in ms (R54). -/
def Config.standDown : Nat := 2000

/-- The interframe gap, in bit times (R43). -/
def Config.gap : Nat := 12

/-- The listening and the confirm period of 500 ms (R57). -/
def Config.claimPeriod : Nat := 500

/-- Four minutes per blocker, in ms (R164). -/
def Config.digPerBlocker : Nat := 4 * 60 * 1000

/-- The record slots of the store (R2). -/
def Config.recordSlots : Nat := 96

end Sys2Proof
end

