-- ==== Sys2Proof/Machine/State.lean ====
section
/-! DEFINITION. The state of the part, block by block (spec chapter 1.2), as plain data; the fault and refusal reasons; and
the state right after a power-on reset. Timers are `Option Nat`: `none` is stopped, `some k` runs with k ms left. -/

namespace Sys2Proof.Machine

/-- D, G or UNKNOWN (R1). -/
inductive FuelKind where
  | d | g | unknown
  deriving DecidableEq, Repr

/-- STD takes 2 units and ART takes 3 (R1). -/
inductive LengthClass where
  | std | art
  deriving DecidableEq, Repr

/-- The ten place states of R6. -/
inductive PlaceState where
  | intake | apron | enRoute | queued | granted | inService | served | parked | awarded | loose
  deriving DecidableEq, Repr

/-- The call kinds of a node's own exchanges (R64). -/
inductive CallKind where
  | berth | fuel | wash
  deriving DecidableEq, Repr

/-- The kind of a service point and of the turns at it (R98). -/
inductive ServiceKind where
  | fuel | wash
  deriving DecidableEq, Repr

/-- Where an EN_ROUTE record is going (R1). -/
inductive Destination where
  | lane (number : Nat)
  | point (kind : ServiceKind)
  deriving DecidableEq, Repr

/-- The end kinds of a turn (R123). -/
inductive EndKind where
  | normal | busFault | stationFault | overrun | lapsed
  deriving DecidableEq, Repr

/-- The outcome of a finished turn (R123). The start tag is absent for LAPSED. -/
structure TurnOutcome where
  service : ServiceKind
  station : Nat
  level : Nat
  startTag : Option Nat
  endTag : Nat
  endKind : EndKind
  retriesUsed : Nat
  energyBefore : Option Nat
  energyAfter : Option Nat
  deriving DecidableEq, Repr

/-- Who asks for an exchange: RS by the routing rule, or DU for a shunt (R64). -/
inductive Requester where
  | rs | du
  deriving DecidableEq, Repr

/-- The wanted call of a calling-wanted record (R9), with what a shunt request names besides (R165). -/
structure WantedCall where
  kind : CallKind
  requester : Requester
  excluded : Option Nat
  deriving DecidableEq, Repr

/-- A bus record (R1). `lastCall` is the kind of its previous exchange (R13), `lastLane` the lane of its last TRACKED entry
(R150). -/
structure Rec where
  fleet : Nat
  fuel : FuelKind
  lengthClass : LengthClass
  serviceClass : Nat
  energy : Option Nat
  washDue : Bool
  washed : Bool
  place : PlaceState
  destination : Option Destination
  age : Nat
  stray : Bool
  doubled : Bool
  unconfirmed : Bool
  census : Bool
  fuelSkipped : Bool
  washSkipped : Bool
  shunt : Bool
  wanted : Option WantedCall
  lapses : Nat
  retries : Nat
  attempts : Nat
  outcome : Option TurnOutcome
  award : Option (Nat × Nat)
  placeTimer : Option Nat
  repeatTimer : Option Nat
  lastCall : Option CallKind
  lastLane : Option Nat
  deriving DecidableEq, Repr

/-- The record store: 96 slots, the position being the record index, and the calling-wanted order, oldest first
(R2, R9). -/
structure RecordStore where
  store : List (Option Rec)
  wantedOrder : List Nat
  deriving DecidableEq, Repr

/-- Sets the entry end and whether a rear reader exists (R18). -/
inductive LaneType where
  | deadEnd | through
  deriving DecidableEq, Repr

/-- The aspect rule under line loss (R37). -/
inductive Fallback where
  | hold | stop
  deriving DecidableEq, Repr

/-- The three lane states of R19. -/
inductive LaneState where
  | opened | held | dig
  deriving DecidableEq, Repr

/-- The indication of a signal head (R36). -/
inductive Aspect where
  | stop | go | shunt
  deriving DecidableEq, Repr

/-- The kinds of lane entry (R20); a TRACKED entry carries its record index. -/
inductive EntryKind where
  | tracked (record : Nat)
  | outbound
  | untracked
  deriving DecidableEq, Repr

/-- A lane entry (R20). -/
structure Entry where
  fleet : Nat
  units : Nat
  kind : EntryKind
  unconfirmed : Bool
  deriving DecidableEq, Repr

/-- An inbound allocation (R138). -/
structure Alloc where
  record : Nat
  units : Nat
  deriving DecidableEq, Repr

/-- A lane: its configured fields, its state, its entries mouth first, its allocations oldest first, its aspects
(R18, R20, R21, R36). -/
structure Lane where
  laneAlias : Nat
  type : LaneType
  length : Nat
  weight : Nat
  fallback : Fallback
  state : LaneState
  entries : List Entry
  allocs : List Alloc
  computed : Aspect
  displayed : Aspect
  deriving DecidableEq, Repr

/-- The lanes in local-number order; lane n is at position n - 1 (R18). -/
structure LaneMap where
  lanes : List Lane
  deriving DecidableEq, Repr

/-- The line states of section 3.6. -/
inductive LineState where
  | offline | joining | claiming | active | mute | lost
  deriving DecidableEq, Repr

/-- The two yard-line rates (R39). -/
inductive BitRate where
  | kbit125 | kbit250
  deriving DecidableEq, Repr

/-- A frame as the node sends it (R40, R41). -/
structure Frame where
  kind : Nat
  cost : Nat
  node : Nat
  item : Nat
  addressee : Nat
  body : List Byte
  deriving DecidableEq, Repr

/-- What a frame of this node came from (R65; `claim` and `claimAnswer` are the Line Interface's own, R57, R59). -/
inductive FrameKey where
  | timeMark
  | call (exchange : Nat)
  | question (record : Nat)
  | offer
  | transfer (exchange : Nat)
  | answer (record : Nat)
  | notice
  | status
  | claim
  | claimAnswer
  deriving DecidableEq, Repr

/-- The occupied transmit place. `sending` holds from the frame's start bit; `abandoned` after an echo fault (R45);
`stale` where the question or answer behind it has been replaced or closed (R76, R79); `gone` where the record behind it
has been deleted (R79); `census` marks the WHEREABOUTS of a record that was census-flagged when it was handed over (R65). -/
structure TxPlace where
  key : FrameKey
  frame : Frame
  census : Bool
  sending : Bool
  abandoned : Bool
  stale : Bool
  gone : Bool
  deriving DecidableEq, Repr

/-- The conditions of the offer window (R50). -/
inductive WindowCond where
  | closed | pending | opened
  deriving DecidableEq, Repr

/-- The four call frames (R41). -/
inductive CallFrameKind where
  | slot | berth | fuel | wash
  deriving DecidableEq, Repr

/-- The contents of a SLOT CALL (section 8.2). -/
structure SlotCall where
  slot : Nat
  due : Nat
  fuel : FuelKind
  lengthClass : LengthClass
  eMin : Nat
  washRequired : Bool
  digAllowed : Bool
  deriving DecidableEq, Repr

/-- The contents of a BERTH, FUEL or WASH CALL that answering nodes read (R66, R128). -/
structure BusCall where
  fleet : Nat
  fuel : FuelKind
  lengthClass : LengthClass
  energy : Option Nat
  excluded : Option Nat
  deriving DecidableEq, Repr

/-- What a call asks for. -/
inductive CallContent where
  | bus (call : BusCall)
  | slot (call : SlotCall)
  deriving DecidableEq, Repr

/-- The call that an offer window belongs to (R50). `content` is absent where no offer may be made on the call: it is
not addressed to all stations (R67) or its body does not fit (R193). -/
structure WindowCall where
  kind : CallFrameKind
  caller : Nat
  callId : Nat
  limit : Nat
  content : Option CallContent
  deriving DecidableEq, Repr

/-- The offer window (R50). -/
structure Window where
  cond : WindowCond
  call : Option WindowCall
  reopens : Nat
  deriving DecidableEq, Repr

/-- The six fault counters (R61). -/
structure Counters where
  checkFailures : Nat
  flawsSignalled : Nat
  echoFaults : Nat
  ownFailures : Nat
  lostContentions : Nat
  numberClashes : Nat
  deriving DecidableEq, Repr

/-- The claim state (R56). The timer is the confirm period while a number is under claim and has been sent, the listening
period while no number is under claim. -/
structure Claim where
  heard : List Nat
  tried : List Nat
  number : Option Nat
  failed : Nat
  timer : Option Nat
  deriving DecidableEq, Repr

/-- The Line Interface (chapter 3). `rx` is the receive frame: the bits read so far of the frame that is on the line, from its
start bit, as far as commands have carried them, and empty where no frame is (R52, R55; log entry 7). `gap` are the recessive bits that count
towards the interframe gap: those of the quiet timer, but after a frame only those from its end field on (R40, R43). `claimAnswer` is the
number of sendings already made of a waiting answer (R59). -/
structure LineInterface where
  lineState : LineState
  bitRate : Option BitRate
  nodeNumber : Nat
  claimed : Bool
  quiet : Nat
  stuck : Nat
  gap : Nat
  tx : Option TxPlace
  lineBits : List Bool
  rx : List Bool
  droveAck : Bool
  droveFlaw : Bool
  window : Window
  consecutiveFailures : Nat
  consecutiveFlaws : Nat
  counters : Counters
  lineLost : Bool
  standDown : Option Nat
  claim : Claim
  claimAnswer : Option Nat
  deriving DecidableEq, Repr

/-- The states of an exchange (R64). -/
inductive ExchangeState where
  | pending | called | window | handover
  deriving DecidableEq, Repr

/-- The winner of an exchange's window: node number, item, and the alias of a berth offer's body (R66, R72). -/
structure Winner where
  node : Nat
  item : Nat
  laneAlias : Nat
  deriving DecidableEq, Repr

/-- An exchange-table entry (R64). `closing` marks an exchange closed by R73 whose entry is freed at the verdict that is
due; `gone` that its record has been deleted by another cause meanwhile (R69). -/
structure Exchange where
  id : Nat
  kind : CallKind
  record : Nat
  requester : Requester
  excluded : Option Nat
  state : ExchangeState
  callFailures : Nat
  winner : Option Winner
  transferFailures : Nat
  wait : Option Nat
  closing : Bool
  gone : Bool
  deriving DecidableEq, Repr

/-- What a reservation sets aside besides one record slot (R68). A bid also keeps the fleet number of the bidding record at
its start (R149, R150). -/
inductive Resource where
  | berth (lane units : Nat)
  | place (kind : ServiceKind) (fuel : FuelKind)
  | bid (record fleet : Nat)
  deriving DecidableEq, Repr

/-- A reservation-table entry (R68). -/
structure Reservation where
  caller : Nat
  callId : Nat
  kind : CallFrameKind
  resource : Resource
  held : Bool
  timer : Option Nat
  deriving DecidableEq, Repr

/-- The states of a question (R76). -/
inductive QuestionState where
  | waiting | asked | over
  deriving DecidableEq, Repr

/-- A question-list entry (R76). -/
structure Question where
  record : Nat
  fleet : Nat
  gate : Bool
  state : QuestionState
  failures : Nat
  wait : Option Nat
  answerTimer : Option Nat
  deriving DecidableEq, Repr

/-- The kinds of answer (R77). -/
inductive AnswerKind where
  | release | held
  deriving DecidableEq, Repr

/-- An answer-list entry (R79). -/
structure Answer where
  record : Nat
  fleet : Nat
  asker : Nat
  kind : AnswerKind
  gate : Bool
  deferred : Bool
  failures : Nat
  wait : Option Nat
  deriving DecidableEq, Repr

/-- A whereabouts-memory entry (R81). -/
structure MemoryEntry where
  fleet : Nat
  asker : Nat
  gate : Bool
  expiry : Option Nat
  deriving DecidableEq, Repr

/-- The kinds of DEPART NOTICE (R157). -/
inductive NoticeKind where
  | departed | missed | givenUp | unreadExit
  deriving DecidableEq, Repr

/-- A DEPART NOTICE (R157); lane alias 0 is none. -/
structure Notice where
  fleet : Nat
  slot : Nat
  laneAlias : Nat
  kind : NoticeKind
  tag : Nat
  deriving DecidableEq, Repr

/-- A notice-list entry with its sending count (R84). -/
structure QueuedNotice where
  notice : Notice
  failures : Nat
  deriving DecidableEq, Repr

/-- A status-list entry (R83). -/
structure Querier where
  node : Nat
  part : Nat
  index : Nat
  deriving DecidableEq, Repr

/-- The Exchange Engine (R63). Exchanges stand in the order they were opened, reservations in the order they were made,
the other lists oldest first; `ready` is the order in which frames became ready (R65). -/
structure ExchangeEngine where
  exchanges : List Exchange
  reservations : List Reservation
  questions : List Question
  answers : List Answer
  memory : List MemoryEntry
  notices : List QueuedNotice
  noticeWait : Option Nat
  timeMark : Bool
  statusList : List Querier
  spacing : Option Nat
  ready : List FrameKey
  deriving DecidableEq, Repr

/-- The current intake (R86): present exactly while the gate state is HOLDING. -/
structure Intake where
  record : Nat
  fleet : Nat
  deriving DecidableEq, Repr

/-- The Intake Unit (R86). -/
structure IntakeUnit where
  gatePresent : Bool
  intake : Option Intake
  holdTimer : Option Nat
  deriving DecidableEq, Repr

/-- The four station states (R100). -/
inductive StationState where
  | free | granted | inService | fault
  deriving DecidableEq, Repr

/-- A destination shown to a driver (R96, R101). -/
inductive Shown where
  | lane (laneAlias : Nat)
  | node (number : Nat)
  | apron
  deriving DecidableEq, Repr

/-- A station (R100, R101). `fuel` is absent at a WASH point; `record` is absent in a foreign turn; the guidance line is
blank or a fleet number with its destination. -/
structure Station where
  fuel : Option FuelKind
  state : StationState
  record : Option Nat
  fleet : Nat
  level : Option Nat
  startTag : Nat
  energyBefore : Option Nat
  timer : Option Nat
  guidance : Option (Nat × Shown)
  deriving DecidableEq, Repr

/-- The Turn Scheduler (R98, R103, R107). `kind` is absent for point kind NONE; limits are in ms. -/
structure TurnScheduler where
  kind : Option ServiceKind
  opened : Bool
  rotating : Bool
  retryLimit : Nat
  grantLimit : Nat
  overrunLimit : Nat
  stations : List Station
  levels : List (List Nat)
  retryOrder : List (Nat × Nat)
  order : List Nat
  heldLevels : List Nat
  deriving DecidableEq, Repr

/-- The modes of an award (R151). -/
inductive AwardMode where
  | direct | digging
  deriving DecidableEq, Repr

/-- An award-list entry (R151): `timer` is absent while the limit is WAITING and runs while it is RUNNING. -/
structure Award where
  slot : Nat
  due : Nat
  record : Nat
  fleet : Nat
  lane : Nat
  mode : AwardMode
  timer : Option Nat
  deriving DecidableEq, Repr

/-- The phases of a dig (R163). -/
inductive DigPhase where
  | calling | leaving | clear
  deriving DecidableEq, Repr

/-- A dig record (R163); blockers are record index and fleet number, mouth first. -/
structure Dig where
  lane : Nat
  target : Nat
  targetFleet : Nat
  slot : Nat
  blockers : List (Nat × Nat)
  blockerCount : Nat
  phase : DigPhase
  current : Option (Nat × Nat)
  shunted : Option Nat
  timer : Option Nat
  deriving DecidableEq, Repr

/-- The Departure Unit (R142). -/
structure DepartureUnit where
  awards : List Award
  digs : List Dig
  deriving DecidableEq, Repr

/-- The Yard Clock (R177). -/
structure YardClock where
  seconds : Nat
  partMs : Nat
  isSet : Bool
  washOpen : Bool
  deriving DecidableEq, Repr

/-- The reasons of a refused field message (R185). -/
inductive Reason where
  | busy | state | range | full
  deriving DecidableEq, Repr

/-- What a reply carries besides its result: nothing, the contents of R110, or the status bytes of R194. -/
inductive Payload where
  | none
  | next (pointOpen : Bool) (dFleet dFree gFleet gFree : Nat)
  | status (bytes : List Byte)
  deriving DecidableEq, Repr

/-- A reply (R185): the kind answered, ACCEPTED (no reason) or REFUSED with a reason, and its payload. -/
structure Reply where
  kind : Nat
  refused : Option Reason
  payload : Payload
  deriving DecidableEq, Repr

/-- The guidance markers (R96, R166). -/
inductive Marker where
  | gate | late | shunt
  deriving DecidableEq, Repr

/-- The reasons shown with APRON (R96). -/
inductive ApronReason where
  | none | noRecord | noBerth | holdLimit | withdrawn
  deriving DecidableEq, Repr

/-- The station line (R100). -/
inductive StationLine where
  | blank | call | serving | outOfService
  deriving DecidableEq, Repr

/-- The outputs that wait in the output queue (R186). -/
inductive Output where
  | laneAspect (lane laneAlias : Nat) (aspect : Aspect)
  | stationDisplay (station : Nat) (line : StationLine) (fleet : Nat) (guidance : Option (Nat × Shown))
  | guidance (fleet : Nat) (marker : Marker) (shown : Shown) (reason : ApronReason)
  | barrier (release : Bool)
  deriving DecidableEq, Repr

/-- The causes of an ORDER_FAULT report (section 2.8). -/
inductive OrderFaultCause where
  | nonFrontExit | rearExit | moved | giveWay | taken
  deriving DecidableEq, Repr

/-- The causes of a dig's end (R172, R173, R174). -/
inductive DigCause where
  | targetFront | targetDeparted | targetWithdrawn | targetRead | shuntFailed | digLimit | orderFault | entryAhead
  deriving DecidableEq, Repr

/-- The settings that a CONFIG_CLAMPED report can name, in the order of the table of R189. -/
inductive SettingName where
  | nodeNumber | bitRate | laneLength | laneAlias | laneWeight | retryLimit | offerRetryLimit | fuelThreshold
  | reservationTimeout | grantLimit | overrunLimit | awardLimit | repeatInterval | callSpacing | gateHoldLimit
  | washOpen | washCutOff
  deriving DecidableEq, Repr

/-- The reports, with the contents their rules give (the report tables of the chapters). Place state `none` is NONE, slot 0
and alias 0 are none. -/
inductive Report where
  | adopted (fleet : Nat)
  | allocationRevoked (laneAlias fleet : Nat)
  | answerDropped (fleet asker : Nat)
  | answerFailed (fleet asker : Nat)
  | approachRepeat (fleet : Nat)
  | approachUnexpected (fleet : Nat) (place : Option PlaceState)
  | award (slot fleet laneAlias depth : Nat)
  | awardMissed (slot fleet : Nat)
  | awardVoid (slot fleet : Nat)
  | censusDone (laneAlias moved created untracked loosed : Nat)
  | clockSet (seconds : Nat)
  | clockStep (old new : Nat)
  | configClamped (setting : SettingName) (part carried taken : Nat)
  | departNotice (notice : Notice)
  | digEnded (slot fleet laneAlias : Nat) (cause : DigCause)
  | digStarted (slot fleet laneAlias blockers : Nat)
  | endMismatch (station carried message : Nat)
  | foreignEnd (station fleet : Nat) (endKind : EndKind) (startTag endTag : Nat) (energy : Option Nat)
  | foreignStart (station fleet : Nat) (place : Option PlaceState)
  | frameFormat (kind sender : Nat)
  | gateNoRecord (fleet : Nat) (fuel : FuelKind) (lengthClass : LengthClass)
  | gateReused (fleet : Nat) (prior : PlaceState) (slot : Nat)
  | handoverFailed (fleet : Nat) (kind : CallKind) (winner : Nat)
  | holdExpired (fleet : Nat) (kind : Option CallKind)
  | inboundExpired (fleet : Nat) (destination : Option Destination)
  | inputOverflow (count : Nat)
  | lapse (station fleet lapses : Nat)
  | lateGuidance (fleet : Nat) (shown : Shown)
  | lineActive (node : Nat) (claimed : Bool)
  | lineLost
  | lineMute (flaws : Bool)
  | lost (fleet : Nat)
  | noNumber
  | noticeDropped (fleet slot : Nat)
  | numberClash (node kind : Nat)
  | orderFault (laneAlias fleet : Nat) (cause : OrderFaultCause)
  | outputDroppedFleet (fleet : Nat)
  | outputDroppedKind (kind : Nat)
  | reservationRevoked (laneAlias caller callId : Nat)
  | reset (external : Bool) (identity : BitVec 24)
  | retryNoPlace (fleet : Nat)
  | serviceSkipped (fleet : Nat) (service : ServiceKind)
  | shuntPlaced (slot target blocker laneAlias : Nat)
  | slotCallInvalid (slot due caller : Nat)
  | slotReposted (slot fleet : Nat)
  | strayEnd (station fleet : Nat) (endKind : EndKind)
  | timeMarkInvalid (value sender : Nat)
  | turnOutcome (fleet : Nat) (outcome : TurnOutcome)
  | unknownExit (laneAlias readerEnd fleet : Nat) (place : Option PlaceState)
  | unscheduledStart (station fleet : Nat)
  | untracked (laneAlias fleet : Nat)
  | washWindow (opened : Bool) (seconds : Nat)
  | wrongBus (station started displaced : Nat)
  | wrongEnd (laneAlias fleet : Nat)
  | wrongLane (allocated read fleet : Nat)
  deriving DecidableEq, Repr

/-- A queued report with the seconds of day at which it was queued (R187). -/
structure QueuedReport where
  report : Report
  tag : Nat
  deriving DecidableEq, Repr

/-- A message handed to the output line (R186): a REPORT carries the dropped count of its sending (R187). -/
inductive SentMessage where
  | reply (reply : Reply)
  | output (output : Output)
  | report (report : QueuedReport) (dropped : Nat)
  deriving DecidableEq, Repr

/-- The output line's last message, its bytes, start byte to check, and their bits as sent (R183, R186; log entry 27). -/
structure OutLine where
  message : SentMessage
  bytes : List Byte
  bits : List Bool
  deriving DecidableEq, Repr

/-- The Field Port (chapter 11). A place of the receive buffer is taken from a message's arrival until its reply is handed
to the output line, so the taken places are the waiting replies (R184, log entry 3). -/
structure FieldPort where
  linkRate : LinkRate
  replies : List Reply
  outputs : List Output
  reports : List QueuedReport
  dropped : Nat
  overflow : Nat
  linkErrors : Nat
  outputDropped : Nat
  lineOut : Option OutLine
  deriving DecidableEq, Repr

/-- The settings that no other block holds as its own (R189). Times are in ms, wash times minutes of day. -/
structure Settings where
  timeSource : Bool
  offerRetryLimit : Nat
  fuelThreshold : Nat
  reservationTimeout : Nat
  awardLimit : Nat
  repeatInterval : Nat
  spacing : Nat
  gateHold : Nat
  washOpen : Nat
  washCutOff : Nat
  deriving DecidableEq, Repr

/-- The part: its nine blocks, its settings and its factory identity. -/
structure Part where
  settings : Option Settings
  identity : BitVec 24
  rs : RecordStore
  lm : LaneMap
  lif : LineInterface
  xe : ExchangeEngine
  iu : IntakeUnit
  ts : TurnScheduler
  du : DepartureUnit
  yc : YardClock
  fp : FieldPort
  deriving DecidableEq, Repr

/-- The machine's state: the part, and the commands that wait, first in, first out. -/
structure State extends Part where
  pending : List Instr
  deriving DecidableEq, Repr

/-- The part has no fault that stops it: the spec gives every command an effect in every state, or a refused reply that
changes nothing (R185). No constructor. -/
inductive Fault where
  deriving DecidableEq, Repr

/-- Why a command has no meaning. -/
inductive Refusal where
  /-- Raised by a `Dispatch` arm that has no meaning yet; no arm raises it. Safe. -/
  | notModelled (mnemonic : String)
  deriving DecidableEq, Repr

/-! ### After a reset -/

/-- An empty store (R17). -/
def RecordStore.empty : RecordStore := { store := List.replicate Config.recordSlots none, wantedOrder := [] }

/-- An empty claim state (R56). -/
def Claim.empty : Claim := { heard := [], tried := [], number := none, failed := 0, timer := none }

/-- A closed window (R50). -/
def Window.shut : Window := { cond := .closed, call := none, reopens := 0 }

/-- All fault counters 0 (R61). -/
def Counters.zero : Counters :=
  { checkFailures := 0, flawsSignalled := 0, echoFaults := 0, ownFailures := 0, lostContentions := 0, numberClashes := 0 }

/-- The Line Interface after either reset (R39, R52). -/
def LineInterface.atReset : LineInterface where
  lineState := .offline
  bitRate := none
  nodeNumber := 0
  claimed := false
  quiet := 0
  stuck := 0
  gap := 0
  tx := none
  lineBits := []
  rx := []
  droveAck := false
  droveFlaw := false
  window := Window.shut
  consecutiveFailures := 0
  consecutiveFlaws := 0
  counters := Counters.zero
  lineLost := false
  standDown := none
  claim := Claim.empty
  claimAnswer := none

/-- An empty Exchange Engine with its timers stopped (R63). -/
def ExchangeEngine.empty : ExchangeEngine where
  exchanges := []
  reservations := []
  questions := []
  answers := []
  memory := []
  notices := []
  noticeWait := none
  timeMark := false
  statusList := []
  spacing := none
  ready := []

/-- The Turn Scheduler without a point (R98). The fields that such a part holds nothing in are DESIGN CHOICE (log entry 29). -/
def TurnScheduler.noPoint : TurnScheduler where
  kind := none
  opened := false
  rotating := false
  retryLimit := 0
  grantLimit := 0
  overrunLimit := 0
  stations := []
  levels := List.replicate 8 []
  retryOrder := []
  order := [0, 1, 2, 3, 4, 5, 6, 7]
  heldLevels := []

/-- The Field Port after either reset: BARRIER HOLD and then the RESET report (R192). -/
def FieldPort.atReset (straps : LinkRate) (external : Bool) (identity : BitVec 24) (seconds : Nat) : FieldPort where
  linkRate := straps
  replies := []
  outputs := [.barrier false]
  reports := [{ report := .reset external identity, tag := seconds }]
  dropped := 0
  overflow := 0
  linkErrors := 0
  outputDropped := 0
  lineOut := none

/-- The part after a reset that leaves the Yard Clock at `clock` (R192). The wash window is OPEN until a CONFIG (R177). -/
def Part.afterReset (straps : LinkRate) (external : Bool) (identity : BitVec 24) (clock : YardClock) : Part where
  settings := none
  identity := identity
  rs := RecordStore.empty
  lm := { lanes := [] }
  lif := LineInterface.atReset
  xe := ExchangeEngine.empty
  iu := { gatePresent := false, intake := none, holdTimer := none }
  ts := TurnScheduler.noPoint
  du := { awards := [], digs := [] }
  yc := { clock with washOpen := true }
  fp := FieldPort.atReset straps external identity clock.seconds

/-- The clock after a power-on reset (R177). -/
def YardClock.atPowerOn : YardClock := { seconds := 0, partMs := 0, isSet := false, washOpen := true }

/-- The machine right after a power-on reset (R192). The straps select 19.2 kbit/s and the factory identity is 0:
DESIGN CHOICE, log entry 5; unsafe. -/
def State.reset : State where
  toPart := Part.afterReset .kbit19_2 false 0 YardClock.atPowerOn
  pending := []

end Sys2Proof.Machine
end

