-- ==== Sys2Proof/Machine/Formats.lean ====
section
/-! DEFINITION. The layouts and codes of chapter 12: byte order, codes, the check (R193), the yard-line frame (section
12.1), frame bodies and the record image (section 12.3), and the messages the node sends on the field link (section 12.5).
Codes that section 12.2 does not list are `Config.unlistedCode` (log entry 6). -/

namespace Sys2Proof.Machine

/-! ### Bytes and bits -/

/-- The low byte of a number. -/
def byte (n : Nat) : Byte := BitVec.ofNat 8 n

/-- A number as w bytes, most significant first (chapter 12). -/
def toBytes (w n : Nat) : List Byte := (List.range w).map fun i => byte (n / 256 ^ (w - 1 - i))

/-- The number that bytes hold, most significant first. -/
def fromBytes (bs : List Byte) : Nat := bs.foldl (fun a b => a * 256 + b.toNat) 0

/-- The byte at offset i as a number, 0 beyond the body. -/
def byteAt (body : List Byte) (i : Nat) : Nat := (body.getD i 0).toNat

/-- The number in the w bytes from offset i. -/
def wordAt (body : List Byte) (i w : Nat) : Nat := fromBytes ((body.drop i).take w)

/-- The low w bits of a number, most significant first; true is recessive, 1 (R39). -/
def toBits (w n : Nat) : List Bool := (List.range w).map fun i => n.testBit (w - 1 - i)

/-- The number that bits hold, most significant first. -/
def fromBits (bs : List Bool) : Nat := bs.foldl (fun a b => a * 2 + if b then 1 else 0) 0

/-- A yes/no code or a flag bit. -/
def bitOf (b : Bool) : Nat := if b then 1 else 0

/-- The check register after one more covered bit (R193). -/
def checkStep (reg : BitVec 16) (covered : Bool) : BitVec 16 :=
  if reg.msb != covered then (reg <<< 1) ^^^ 4129#16 else reg <<< 1

/-- The check of R42 over covered bits (R193). -/
def check (covered : List Bool) : BitVec 16 := covered.foldl checkStep 65535#16

/-! ### Codes (section 12.2) -/

def FuelKind.code : FuelKind → Nat
  | .d => 0
  | .g => 1
  | .unknown => 2

def readFuel : Nat → Option FuelKind
  | 0 => some .d
  | 1 => some .g
  | 2 => some .unknown
  | _ => none

def LengthClass.code : LengthClass → Nat
  | .std => 0
  | .art => 1

def readClass : Nat → Option LengthClass
  | 0 => some .std
  | 1 => some .art
  | _ => none

def energyCode : Option Nat → Nat
  | some e => e
  | none => 255

/-- An energy byte: 255 is absent, one of 101 to 254 is taken as 100 (R1, R195). -/
def readEnergy (n : Nat) : Option Nat := if n = 255 then none else some (min n 100)

/-- A time tag's code, 16,777,215 for absent. -/
def tagCode : Option Nat → Nat
  | some t => t
  | none => 16777215

def readTag (n : Nat) : Option Nat := if n = 16777215 then none else some n

/-- A time tag's field holds a code: a second of the day, or absent. -/
def tagOk (n : Nat) : Bool := n ≤ 86399 || n == 16777215

def EndKind.code : EndKind → Nat
  | .normal => 0
  | .busFault => 1
  | .stationFault => 2
  | .overrun => 3
  | .lapsed => 4

def readEndKind : Nat → Option EndKind
  | 0 => some .normal
  | 1 => some .busFault
  | 2 => some .stationFault
  | 3 => some .overrun
  | 4 => some .lapsed
  | _ => none

def NoticeKind.code : NoticeKind → Nat
  | .departed => 0
  | .missed => 1
  | .givenUp => 2
  | .unreadExit => 3

def Aspect.code : Aspect → Nat
  | .stop => 0
  | .go => 1
  | .shunt => 2

/-- The code of a reply's result. -/
def resultCode : Option Reason → Nat
  | none => 0
  | some .busy => 1
  | some .state => 2
  | some .range => 3
  | some .full => 4

def PlaceState.code : PlaceState → Nat
  | .intake => 0
  | .apron => 1
  | .enRoute => 2
  | .queued => 3
  | .granted => 4
  | .inService => 5
  | .served => 6
  | .parked => 7
  | .awarded => 8
  | .loose => 9

/-- A place state or NONE. -/
def placeCode : Option PlaceState → Nat
  | some st => st.code
  | none => 15

def LineState.code : LineState → Nat
  | .offline => 0
  | .joining => 1
  | .claiming => 2
  | .active => 3
  | .mute => 4
  | .lost => 5

def LaneState.code : LaneState → Nat
  | .opened => 0
  | .held => 1
  | .dig => 2

/-- The code of a point kind, NONE when absent. -/
def pointKindCode : Option ServiceKind → Nat
  | none => 0
  | some .fuel => 1
  | some .wash => 2

/-- The code of a point state: OPEN 0, CLOSED 1. -/
def pointStateCode (opened : Bool) : Nat := if opened then 0 else 1

def StationState.code : StationState → Nat
  | .free => 0
  | .granted => 1
  | .inService => 2
  | .fault => 3

def StationLine.code : StationLine → Nat
  | .blank => 0
  | .call => 1
  | .serving => 2
  | .outOfService => 3

def Marker.code : Marker → Nat
  | .gate => 0
  | .late => 1
  | .shunt => 2

def ApronReason.code : ApronReason → Nat
  | .none => 0
  | .noRecord => 1
  | .noBerth => 2
  | .holdLimit => 3
  | .withdrawn => 4

/-- Destination code, then alias or node, 0 for APRON. -/
def Shown.bytes : Shown → List Byte
  | .lane a => [byte 1, byte a]
  | .node n => [byte 2, byte n]
  | .apron => [byte 3, byte 0]

/-! ### Yard-line frames (sections 12.1 and 12.3) -/

/-- The covered bits of a frame, kind to body (R42). -/
def Frame.coveredBits (f : Frame) : List Bool :=
  toBits 4 f.kind ++ toBits 16 f.cost ++ toBits 5 f.node ++ toBits 7 f.item ++ toBits 5 f.addressee
    ++ toBits 5 f.body.length ++ f.body.flatMap fun b => toBits 8 b.toNat

/-- The bits that a sender drives, start bit to check (R40). -/
def Frame.bits (f : Frame) : List Bool := false :: f.coveredBits ++ toBits 16 (check f.coveredBits).toNat

/-- The bits of a received frame of a kind, start bit to check (R40). -/
def rxBits (kind : Nat) (f : RxFrame) : List Bool :=
  Frame.bits { kind := kind, cost := f.cost, node := f.node, item := f.item, addressee := f.addressee, body := f.body }

/-- The kind field of a frame whose check failed (R40). -/
def flawedKind (f : FlawedFrame) : Nat := fromBits ((f.bits.drop 1).take 4)

/-- The two slots as read, each dominant where any station drives it (R40). -/
def slotBits (ack flaw : Bool) : List Bool := [!ack, !flaw]

/-- The eight bits of the end field as read (R40). -/
def endField (endBits : Byte) : List Bool := toBits 8 endBits.toNat

/-- The bits that end a frame: the two slots, each dominant where any station drives it, and the end field as read (R40). -/
def closingBits (ack flaw : Bool) (endBits : Byte) : List Bool := slotBits ack flaw ++ endField endBits

/-- The contention value (R41). -/
def Frame.contention (f : Frame) : Nat := f.cost * 4096 + f.node * 128 + f.item

/-- The kind code of a call frame (R41). -/
def CallFrameKind.code : CallFrameKind → Nat
  | .slot => 1
  | .berth => 2
  | .fuel => 3
  | .wash => 4

/-- The call frame of an exchange's kind. -/
def CallKind.frame : CallKind → CallFrameKind
  | .berth => .berth
  | .fuel => .fuel
  | .wash => .wash

/-- The image of a record (R69). -/
structure Image where
  fleet : Nat
  fuel : FuelKind
  lengthClass : LengthClass
  serviceClass : Nat
  energy : Option Nat
  washDue : Bool
  washed : Bool
  fuelSkipped : Bool
  washSkipped : Bool
  attempts : Nat
  age : Nat
  outcome : Option TurnOutcome
  deriving DecidableEq, Repr

/-- The image of a record as it stands (R69). -/
def Rec.image (r : Rec) : Image where
  fleet := r.fleet
  fuel := r.fuel
  lengthClass := r.lengthClass
  serviceClass := r.serviceClass
  energy := r.energy
  washDue := r.washDue
  washed := r.washed
  fuelSkipped := r.fuelSkipped
  washSkipped := r.washSkipped
  attempts := r.attempts
  age := r.age
  outcome := r.outcome

def serviceBit : ServiceKind → Nat
  | .fuel => 0
  | .wash => 1

/-- Bytes 7 to 16 of an image: the last outcome (section 12.3). -/
def encodeOutcome : Option TurnOutcome → List Byte
  | none => List.replicate 10 0
  | some o =>
    [byte (128 + serviceBit o.service * 64 + (o.station - 1) * 16 + o.level),
     byte (o.endKind.code * 32 + o.retriesUsed)]
      ++ toBytes 3 (tagCode o.startTag) ++ toBytes 3 o.endTag
      ++ [byte (energyCode o.energyBefore), byte (energyCode o.energyAfter)]

/-- The 17 bytes of an image (section 12.3). -/
def Image.encode (m : Image) : List Byte :=
  toBytes 2 m.fleet
    ++ [byte (m.fuel.code * 64 + m.lengthClass.code * 32 + m.serviceClass), byte (energyCode m.energy),
        byte (bitOf m.washDue + 2 * bitOf m.washed + 4 * bitOf m.fuelSkipped + 8 * bitOf m.washSkipped + 16 * m.attempts)]
    ++ toBytes 2 m.age ++ encodeOutcome m.outcome

/-- The last outcome of an image's bytes: none at all where its end kind or a time tag is no code (R193), an absent one where
bit 7 of byte 7 is clear. -/
def decodeOutcome (b : List Byte) : Option (Option TurnOutcome) :=
  if !(byteAt b 7).testBit 7 then some none
  else if tagOk (wordAt b 9 3) && tagOk (wordAt b 12 3) then
    (readEndKind (byteAt b 8 / 32)).map fun k => some
      { service := if (byteAt b 7).testBit 6 then .wash else .fuel
        station := byteAt b 7 / 16 % 4 + 1
        level := byteAt b 7 % 8
        startTag := readTag (wordAt b 9 3)
        endTag := wordAt b 12 3
        endKind := k
        retriesUsed := byteAt b 8 % 4
        energyBefore := readEnergy (byteAt b 15)
        energyAfter := readEnergy (byteAt b 16) }
  else none

/-- A fleet number is 1 to 9999. -/
def fleetOk (n : Nat) : Bool := 1 ≤ n && n ≤ 9999

/-- The image that 17 bytes hold, where they fit (R193), energy and standing age clamped (R1). -/
def decodeImage (b : List Byte) : Option Image :=
  match readFuel (byteAt b 2 / 64), decodeOutcome b with
  | some fuel, some outcome =>
    if fleetOk (wordAt b 0 2) && b.length == 17 then
      some
        { fleet := wordAt b 0 2
          fuel := fuel
          lengthClass := if (byteAt b 2).testBit 5 then .art else .std
          serviceClass := byteAt b 2 % 8
          energy := readEnergy (byteAt b 3)
          washDue := (byteAt b 4).testBit 0
          washed := (byteAt b 4).testBit 1
          fuelSkipped := (byteAt b 4).testBit 2
          washSkipped := (byteAt b 4).testBit 3
          attempts := byteAt b 4 / 16 % 4
          age := min (wordAt b 5 2) 1023
          outcome := outcome }
    else none
  | _, _ => none

/-- The contents of a BERTH, FUEL or WASH CALL's body, where it fits (R193, section 12.3). -/
def decodeBusCall (b : List Byte) : Option BusCall :=
  match readFuel (byteAt b 4), readClass (byteAt b 5) with
  | some fuel, some cls =>
    if b.length == 10 && fleetOk (wordAt b 2 2) && (byteAt b 1 == 1 || byteAt b 1 == 2)
        && (byteAt b 7 ≤ 100 || byteAt b 7 == 255) then
      some
        { fleet := wordAt b 2 2
          fuel := fuel
          lengthClass := cls
          energy := readEnergy (byteAt b 7)
          excluded := if byteAt b 9 = 0 then none else some (byteAt b 9) }
    else none
  | _, _ => none

/-- The body of a BERTH, FUEL or WASH CALL (R66, section 12.3). -/
def encodeBusCall (id limit : Nat) (r : Rec) (shunt : Bool) (excluded : Option Nat) : List Byte :=
  [byte id, byte limit] ++ toBytes 2 r.fleet
    ++ [byte r.fuel.code, byte r.lengthClass.code, 0, byte (energyCode r.energy), byte (4 * bitOf shunt),
        byte (excluded.getD 0)]

/-- The contents of a SLOT CALL's body, where it fits (R193, section 12.3). DESIGN CHOICE (log entry 70): fuel code 2, UNKNOWN, is a
value of its table (section 12.2) and fits, though section 8.2 names D and G only. -/
def decodeSlotCall (b : List Byte) : Option SlotCall :=
  match readFuel (byteAt b 6), readClass (byteAt b 7) with
  | some fuel, some cls =>
    if b.length == 10 && (byteAt b 1 == 1 || byteAt b 1 == 2) && byteAt b 8 ≤ 127 then
      some
        { slot := wordAt b 2 2
          due := wordAt b 4 2
          fuel := fuel
          lengthClass := cls
          eMin := byteAt b 8
          washRequired := (byteAt b 9).testBit 0
          digAllowed := (byteAt b 9).testBit 1 }
    else none
  | _, _ => none

/-- The contents of a call of a kind, where its body fits. -/
def decodeCall (kind : CallFrameKind) (b : List Byte) : Option CallContent :=
  match kind with
  | .slot => (decodeSlotCall b).map .slot
  | _ => (decodeBusCall b).map .bus

/-- The offer retry limit a call's body carries: 0 is taken as 1 and above 2 as 2 (R50). DESIGN CHOICE (log entry 73): a body too short to
hold the byte is read as carrying 0, so the limit is 1. -/
def callLimit (b : List Byte) : Nat := max 1 (min (byteAt b 1) 2)

/-- The bytes of a status part (R194); parts above 9 are held by no node. -/
def statusPartBytes : Nat → Nat
  | 0 => 17
  | 1 => 5
  | 2 => 13
  | 3 => 6
  | 4 => 5
  | 5 => 17
  | 6 => 2
  | 7 => 9
  | 8 => 10
  | 9 => 17
  | _ => 0

/-- An OFFER's body has the form of an offer on a call of this kind (section 12.3, R193). -/
def offerForm (kind : CallFrameKind) (b : List Byte) : Bool :=
  match kind with
  | .berth => b.length == 3
  | .fuel | .wash => b.length == 2
  | .slot => b.length == 6 && fleetOk (wordAt b 2 2)

/-- A fleet number field that may hold 0 for none. -/
def fleetOrNone (n : Nat) : Bool := n == 0 || fleetOk n

/-- The code fields and the fleet numbers of a status part's contents are codes and fleet numbers, 0 standing for none where
the part may name none (R193, R194). -/
def statusFits (part : Nat) (c : List Byte) : Bool :=
  match part with
  | 0 => byteAt c 0 ≤ 5 && byteAt c 16 ≤ 1
  | 2 => byteAt c 0 ≤ 1
  | 3 => byteAt c 3 ≤ 1 && byteAt c 5 ≤ 1
  | 4 => fleetOrNone (wordAt c 1 2)
  | 5 => byteAt c 0 ≤ 2 && byteAt c 1 ≤ 1
  | 6 => fleetOrNone (wordAt c 0 2 % 16384)
  | 7 => byteAt c 2 / 4 % 4 ≤ 2 && byteAt c 2 % 4 ≤ 2
  | 8 => fleetOk (wordAt c 4 2)
  | 9 => fleetOk (wordAt c 1 2) && byteAt c 5 / 16 % 4 ≤ 2 && fleetOrNone (wordAt c 7 2) && fleetOrNone (wordAt c 9 2)
      && fleetOrNone (wordAt c 11 2) && fleetOrNone (wordAt c 13 2)
  | _ => true

/-- A received frame's body fits its kind (R193, log entry 14). -/
def frameFits (kind : Nat) (b : List Byte) : Bool :=
  match kind with
  | 0 => b.length == 3
  | 1 => (decodeSlotCall b).isSome
  | 2 | 3 | 4 => (decodeBusCall b).isSome
  | 5 => b.length == 4 && fleetOk (wordAt b 0 2)
  | 6 => b.length == 2 || b.length == 3 || (b.length == 6 && fleetOk (wordAt b 2 2))
  | 7 => b.length == 18 && (decodeImage (b.drop 1)).isSome
  | 8 => (decodeImage b).isSome
  | 9 => b.length == 2 && fleetOk (wordAt b 0 2)
  | 10 => b.length == 9 && fleetOk (wordAt b 0 2) && byteAt b 5 ≤ 3 && tagOk (wordAt b 6 3)
  | 11 => b.length == 2
  | 12 => b.length == 2
      || (2 < b.length && b.length == 2 + statusPartBytes (byteAt b 0) && statusFits (byteAt b 0) (b.drop 2))
  | 13 => b.length == 4
  | _ => true

/-- The body of a DEPART NOTICE (section 12.3). -/
def Notice.bytes (n : Notice) : List Byte :=
  toBytes 2 n.fleet ++ toBytes 2 n.slot ++ [byte n.laneAlias, byte n.kind.code] ++ toBytes 3 n.tag

/-! ### Field messages the node sends (section 12.5) -/

/-- The link's codes for the strap settings, in the order R183 lists them. -/
def LinkRate.strap : LinkRate → Fin 4
  | .kbit19_2 => 0
  | .kbit57_6 => 1
  | .kbit115_2 => 2
  | .kbit230_4 => 3

def OrderFaultCause.byte : OrderFaultCause → Byte
  | .nonFrontExit => Config.unlistedCode .faultNonFrontExit
  | .rearExit => Config.unlistedCode .faultRearExit
  | .moved => Config.unlistedCode .faultMoved
  | .giveWay => Config.unlistedCode .faultGiveWay
  | .taken => Config.unlistedCode .faultTaken

def DigCause.byte : DigCause → Byte
  | .targetFront => Config.unlistedCode .digTargetFront
  | .targetDeparted => Config.unlistedCode .digTargetDeparted
  | .targetWithdrawn => Config.unlistedCode .digTargetWithdrawn
  | .targetRead => Config.unlistedCode .digTargetRead
  | .shuntFailed => Config.unlistedCode .digShuntFailed
  | .digLimit => Config.unlistedCode .digLimit
  | .orderFault => Config.unlistedCode .digOrderFault
  | .entryAhead => Config.unlistedCode .digEntryAhead

def callKindByte : Option CallKind → Byte
  | some .berth => Config.unlistedCode .callBerth
  | some .fuel => Config.unlistedCode .callFuel
  | some .wash => Config.unlistedCode .callWash
  | none => Config.unlistedCode .callNone

def ServiceKind.byte : ServiceKind → Byte
  | .fuel => Config.unlistedCode .serviceFuel
  | .wash => Config.unlistedCode .serviceWash

/-- A destination in a report: a local lane number, or FUEL or WASH (R1, R11). -/
def destinationByte : Option Destination → Byte
  | some (.lane n) => Machine.byte n
  | some (.point .fuel) => Config.unlistedCode .destinationFuel
  | some (.point .wash) => Config.unlistedCode .destinationWash
  | none => 0

/-- The position of a setting in the table of R189, for its unlisted code, and the width of its value. -/
def SettingName.position : SettingName → Nat
  | .nodeNumber => 0
  | .bitRate => 1
  | .laneLength => 2
  | .laneAlias => 3
  | .laneWeight => 4
  | .retryLimit => 5
  | .offerRetryLimit => 6
  | .fuelThreshold => 7
  | .reservationTimeout => 8
  | .grantLimit => 9
  | .overrunLimit => 10
  | .awardLimit => 11
  | .repeatInterval => 12
  | .callSpacing => 13
  | .gateHoldLimit => 14
  | .washOpen => 15
  | .washCutOff => 16

def SettingName.width : SettingName → Nat
  | .callSpacing | .gateHoldLimit | .washOpen | .washCutOff => 2
  | _ => 1

/-- The fields of an outcome in R123's order (R187, R194). -/
def TurnOutcome.bytes (o : TurnOutcome) : List Byte :=
  [o.service.byte, byte o.station, byte o.level] ++ toBytes 3 (tagCode o.startTag) ++ toBytes 3 o.endTag
    ++ [byte o.endKind.code, byte o.retriesUsed, byte (energyCode o.energyBefore), byte (energyCode o.energyAfter)]

/-- The report's kind number, from 1 in the alphabetical order of the report names (section 12.5, log entry 15). -/
def Report.number : Report → Nat
  | .adopted .. => 1
  | .allocationRevoked .. => 2
  | .answerDropped .. => 3
  | .answerFailed .. => 4
  | .approachRepeat .. => 5
  | .approachUnexpected .. => 6
  | .award .. => 7
  | .awardMissed .. => 8
  | .awardVoid .. => 9
  | .censusDone .. => 10
  | .clockSet .. => 11
  | .clockStep .. => 12
  | .configClamped .. => 13
  | .departNotice .. => 14
  | .digEnded .. => 15
  | .digStarted .. => 16
  | .endMismatch .. => 17
  | .foreignEnd .. => 18
  | .foreignStart .. => 19
  | .frameFormat .. => 20
  | .gateNoRecord .. => 21
  | .gateReused .. => 22
  | .handoverFailed .. => 23
  | .holdExpired .. => 24
  | .inboundExpired .. => 25
  | .inputOverflow .. => 26
  | .lapse .. => 27
  | .lateGuidance .. => 28
  | .lineActive .. => 29
  | .lineLost => 30
  | .lineMute .. => 31
  | .lost .. => 32
  | .noNumber => 33
  | .noticeDropped .. => 34
  | .numberClash .. => 35
  | .orderFault .. => 36
  | .outputDroppedFleet .. => 37
  | .outputDroppedKind .. => 37
  | .reservationRevoked .. => 38
  | .reset .. => 39
  | .retryNoPlace .. => 40
  | .serviceSkipped .. => 41
  | .shuntPlaced .. => 42
  | .slotCallInvalid .. => 43
  | .slotReposted .. => 44
  | .strayEnd .. => 45
  | .timeMarkInvalid .. => 46
  | .turnOutcome .. => 47
  | .unknownExit .. => 48
  | .unscheduledStart .. => 49
  | .untracked .. => 50
  | .washWindow .. => 51
  | .wrongBus .. => 52
  | .wrongEnd .. => 53
  | .wrongLane .. => 54

/-- A report's contents in its rule's order, each numeric field in the fewest bytes of its range (R194). DESIGN CHOICE: a
CONFIG_CLAMPED of a setting that belongs to no lane or station carries 0 in that field's byte (log entry 54); an UNKNOWN_EXIT
without a record held carries the place state NONE, 15, and a GATE_REUSED without a dropped award the slot number 0 (log entry
69). -/
def Report.contents : Report → List Byte
  | .adopted f | .approachRepeat f | .lost f | .retryNoPlace f => toBytes 2 f
  | .allocationRevoked a f | .untracked a f | .wrongEnd a f => byte a :: toBytes 2 f
  | .answerDropped f asker | .answerFailed f asker => toBytes 2 f ++ [byte asker]
  | .approachUnexpected f pl => toBytes 2 f ++ [byte (placeCode pl)]
  | .award slot f a d => toBytes 2 slot ++ toBytes 2 f ++ [byte a, byte d]
  | .awardMissed slot f | .awardVoid slot f | .slotReposted slot f => toBytes 2 slot ++ toBytes 2 f
  | .censusDone a m c u l => [byte a, byte m, byte c, byte u, byte l]
  | .clockSet t => toBytes 3 t
  | .clockStep old new => toBytes 3 old ++ toBytes 3 new
  | .configClamped st part carried taken =>
    [Config.unlistedCode (.setting st.position), byte part] ++ toBytes st.width carried ++ toBytes st.width taken
  | .departNotice n => n.bytes
  | .digEnded slot f a cause => toBytes 2 slot ++ toBytes 2 f ++ [byte a, cause.byte]
  | .digStarted slot f a n => toBytes 2 slot ++ toBytes 2 f ++ [byte a, byte n]
  | .endMismatch st c m => byte st :: toBytes 2 c ++ toBytes 2 m
  | .foreignEnd st f k t0 t1 e => byte st :: toBytes 2 f ++ [byte k.code] ++ toBytes 3 t0 ++ toBytes 3 t1 ++ [byte (energyCode e)]
  | .foreignStart st f pl => byte st :: toBytes 2 f ++ [byte (placeCode pl)]
  | .frameFormat k n | .numberClash k n => [byte k, byte n]
  | .gateNoRecord f fuel cls => toBytes 2 f ++ [byte fuel.code, byte cls.code]
  | .gateReused f prior slot => toBytes 2 f ++ [byte prior.code] ++ toBytes 2 slot
  | .handoverFailed f k w => toBytes 2 f ++ [callKindByte (some k), byte w]
  | .holdExpired f k => toBytes 2 f ++ [callKindByte k]
  | .inboundExpired f d => toBytes 2 f ++ [destinationByte d]
  | .inputOverflow n => toBytes 2 n
  | .lapse st f n => byte st :: toBytes 2 f ++ [byte n]
  | .lateGuidance f s => toBytes 2 f ++ s.bytes
  | .lineActive n claimed =>
    [byte n, if claimed then Config.unlistedCode .claimed else Config.unlistedCode .configured]
  | .lineLost | .noNumber => []
  | .lineMute flaws => [if flaws then Config.unlistedCode .muteFlaws else Config.unlistedCode .muteSendFailures]
  | .noticeDropped f slot => toBytes 2 f ++ toBytes 2 slot
  | .orderFault a f cause => byte a :: toBytes 2 f ++ [cause.byte]
  | .outputDroppedFleet f => toBytes 2 f
  | .outputDroppedKind k => [byte k]
  | .reservationRevoked a c x => [byte a, byte c, byte x]
  | .reset external identity =>
    (if external then Config.unlistedCode .resetExternal else Config.unlistedCode .resetPowerOn) :: toBytes 3 identity.toNat
  | .serviceSkipped f k => toBytes 2 f ++ [k.byte]
  | .shuntPlaced slot t b a => toBytes 2 slot ++ toBytes 2 t ++ toBytes 2 b ++ [byte a]
  | .slotCallInvalid slot due c => toBytes 2 slot ++ toBytes 2 due ++ [byte c]
  | .strayEnd st f k => byte st :: toBytes 2 f ++ [byte k.code]
  | .timeMarkInvalid v n => toBytes 3 v ++ [byte n]
  | .turnOutcome f o => toBytes 2 f ++ o.bytes
  | .unknownExit a e f pl => [byte a, byte e] ++ toBytes 2 f ++ [byte (placeCode pl)]
  | .unscheduledStart st f => byte st :: toBytes 2 f
  | .washWindow opened t =>
    (if opened then Config.unlistedCode .washOpen else Config.unlistedCode .washClosed) :: toBytes 3 t
  | .wrongBus st a b => byte st :: toBytes 2 a ++ toBytes 2 b
  | .wrongLane a b f => [byte a, byte b] ++ toBytes 2 f

/-- The message code of an output (section 12.5). -/
def Output.code : Output → Nat
  | .laneAspect .. => 131
  | .stationDisplay .. => 132
  | .guidance .. => 133
  | .barrier .. => 134

/-- An output's body (section 12.5). -/
def Output.body : Output → List Byte
  | .laneAspect n a asp => [byte n, byte a, byte asp.code]
  | .stationDisplay n line f g =>
    [byte n, byte line.code] ++ toBytes 2 f ++
      match g with
      | none => [0, 0, 0, 0]
      | some (fleet, .lane a) => byte 1 :: toBytes 2 fleet ++ [byte a]
      | some (fleet, .node k) => byte 2 :: toBytes 2 fleet ++ [byte k]
      | some (fleet, .apron) => byte 3 :: toBytes 2 fleet ++ [0]
  | .guidance f marker shown reason => toBytes 2 f ++ [byte marker.code] ++ shown.bytes ++ [byte reason.code]
  | .barrier release => [byte (bitOf release)]

/-- The code and body of a message the node sends (section 12.5). -/
def SentMessage.parts : SentMessage → Nat × List Byte
  | .reply { kind := _, refused := _, payload := .status bytes } => (130, bytes)
  | .reply { kind, refused, payload := .next opened df dn gf gn } =>
    (129, [byte kind, byte (resultCode refused), byte (pointStateCode opened)]
      ++ toBytes 2 df ++ [byte dn] ++ toBytes 2 gf ++ [byte gn])
  | .reply { kind, refused, payload := .none } => (129, [byte kind, byte (resultCode refused)])
  | .output o => (o.code, o.body)
  | .report q dropped => (135, byte q.report.number :: toBytes 3 q.tag ++ toBytes 2 dropped ++ q.report.contents)

/-- A byte on the field link: one start bit, eight data bits with the least significant first, one stop bit (R183). -/
def linkBits (b : Byte) : List Bool := false :: ((List.range 8).map fun i => b.toNat.testBit i) ++ [true]

/-- The bytes of a field message: start byte 195, length, kind, body, check over length, kind and body (R183, R193). -/
def fieldBytes (kind : Nat) (body : List Byte) : List Byte :=
  let covered := [byte body.length, byte kind] ++ body
  195 :: covered ++ toBytes 2 (check (covered.flatMap fun b => toBits 8 b.toNat)).toNat

end Sys2Proof.Machine
end

