-- ==== Sys2Proof/Machine/Ops.lean ====
section
/-! DEFINITION. The operations that every block uses: the Field Port's queues (R186, R187), counters, settings, record
access and counting (R2, R4), lane access and unit accounting (R21), and the marking of entries (R32). -/

namespace Sys2Proof.Machine

/-! ### Counters and settings -/

/-- A counter of 0 to 65535 rises by one and stays at 65535 (R61, R183, R184, R186, R187). -/
def bump (n : Nat) : Nat := min (n + 1) 65535

/-- A numeric setting, 0 while no settings are held. -/
def Part.setting (p : Part) (f : Settings → Nat) : Nat :=
  match p.settings with
  | some c => f c
  | none => 0

/-- The node is ACTIVE (section 3.6). -/
def Part.active (p : Part) : Bool := p.lif.lineState == .active

/-- The gate is HOLDING (R86). -/
def Part.holding (p : Part) : Bool := p.iu.intake.isSome

/-! ### The report queue (R187) -/

/-- A report joins the tail of the report queue with the seconds of day, or is dropped and counted at 32 (R187). -/
def queueReport (r : Report) (p : Part) : Part :=
  if p.fp.reports.length < 32 then
    { p with fp := { p.fp with reports := p.fp.reports ++ [{ report := r, tag := p.yc.seconds }] } }
  else
    { p with fp := { p.fp with dropped := bump p.fp.dropped } }

/-! ### The output queue (R186) -/

/-- Two outputs drive the same signal head or the same display. -/
def sameTarget : Output → Output → Bool
  | .laneAspect a _ _, .laneAspect b _ _ => a == b
  | .stationDisplay a _ _ _, .stationDisplay b _ _ _ => a == b
  | _, _ => false

/-- The position of the oldest LANE ASPECT or STATION DISPLAY that a later output in the queue supersedes (R186). -/
def supersededAt : List Output → Option Nat
  | [] => none
  | o :: rest => if rest.any (sameTarget o) then some 0 else (supersededAt rest).map (· + 1)

/-- The fleet number of a GUIDANCE marked LATE or SHUNT. -/
def lateGuidanceFleet : Output → Option Nat
  | .guidance fleet .late _ _ => some fleet
  | .guidance fleet .shunt _ _ => some fleet
  | _ => none

/-- BARRIER and GUIDANCE marked GATE, for which room is kept (R186). -/
def Output.forGate : Output → Bool
  | .barrier _ => true
  | .guidance _ .gate _ _ => true
  | _ => false

/-- The length at which the output queue counts as full for an output: 62 while the gate is HOLDING, but for the gate's
own outputs; else 64 (R186). -/
def outputLimit (o : Output) (p : Part) : Nat := if p.holding && !o.forGate then 62 else 64

/-- The output joins the tail of the output queue. -/
def enqueue (o : Output) (p : Part) : Part := { p with fp := { p.fp with outputs := p.fp.outputs ++ [o] } }

/-- The output at position k leaves the output queue. -/
def dropOutput (k : Nat) (p : Part) : Part := { p with fp := { p.fp with outputs := p.fp.outputs.eraseIdx k } }

/-- The output-dropped count rises by one (R186). -/
def countDroppedOutput (p : Part) : Part := { p with fp := { p.fp with outputDropped := bump p.fp.outputDropped } }

/-- An output is produced: it joins the output queue, room being made for it in a full queue (R186). DESIGN CHOICE (log entry
67): where the clearing of a reused record (R90) has used the places that R87 tested, a BARRIER or a GUIDANCE marked GATE that
finds 64 outputs, none of which R186 removes, is dropped and counted as any other. -/
def produce (o : Output) (p : Part) : Part :=
  if p.fp.outputs.length < outputLimit o p then enqueue o p
  else
    match supersededAt p.fp.outputs with
    | some k => enqueue o (dropOutput k p)
    | none =>
      match p.fp.outputs.findIdx? (fun q => (lateGuidanceFleet q).isSome) with
      | some k =>
        let fleet := ((p.fp.outputs[k]?).bind lateGuidanceFleet).getD 0
        enqueue o (queueReport (.outputDroppedFleet fleet) (countDroppedOutput (dropOutput k p)))
      | none => queueReport (.outputDroppedKind o.code) (countDroppedOutput p)

/-! ### Records (R1, R2, R4) -/

/-- The record of an index. -/
def Part.record (p : Part) (i : Nat) : Option Rec := (p.rs.store[i]?).join

/-- The record slot of an index is written. -/
def putRecord (i : Nat) (r : Option Rec) (p : Part) : Part :=
  { p with rs := { p.rs with store := p.rs.store.set i r } }

/-- The record of an index is changed, where there is one. -/
def modRecord (i : Nat) (f : Rec → Rec) (p : Part) : Part :=
  match p.record i with
  | some r => putRecord i (some (f r)) p
  | none => p

/-- The fleet-number index: the record index of a fleet number (R4). -/
def Part.findFleet (p : Part) (fleet : Nat) : Option Nat :=
  p.rs.store.findIdx? fun o => match o with
    | some r => r.fleet == fleet
    | none => false

/-- The place state of the record held for a fleet number, if one is. -/
def Part.placeOfFleet (p : Part) (fleet : Nat) : Option PlaceState :=
  ((p.findFleet fleet).bind p.record).map (·.place)

/-- The number of records in the store (R2). -/
def Part.recordsHeld (p : Part) : Nat := p.rs.store.countP Option.isSome

/-- The record count: records and reservations together (R2; log entry 33). -/
def Part.recordCount (p : Part) : Nat := p.recordsHeld + p.xe.reservations.length

/-- The lowest free record index (R2). -/
def Part.freeIndex (p : Part) : Option Nat := p.rs.store.findIdx? Option.isNone

/-- The record of an index is in a place state. -/
def Part.recordIs (p : Part) (i : Nat) (st : PlaceState) : Bool :=
  match p.record i with
  | some r => r.place == st
  | none => false

/-- The fleet number of a record index, 0 where there is no record. -/
def Part.fleetOf (p : Part) (i : Nat) : Nat :=
  match p.record i with
  | some r => r.fleet
  | none => 0

/-- The berth units of a length class (R1). -/
def LengthClass.units : LengthClass → Nat
  | .std => 2
  | .art => 3

/-! ### Lanes (R18, R20, R21) -/

/-- The lane of a local number, 1 upward. -/
def Part.lane (p : Part) (n : Nat) : Option Lane := if n = 0 then none else p.lm.lanes[n - 1]?

/-- The lane of a local number is changed, where it is configured. -/
def modLane (n : Nat) (f : Lane → Lane) (p : Part) : Part :=
  if n = 0 then p else { p with lm := { p.lm with lanes := p.lm.lanes.modify (n - 1) f } }

/-- The configured local numbers, ascending. -/
def Part.laneNumbers (p : Part) : List Nat := (List.range p.lm.lanes.length).map (· + 1)

/-- The alias of a lane, 0 where it is not configured. -/
def Part.aliasOf (p : Part) (n : Nat) : Nat :=
  match p.lane n with
  | some l => l.laneAlias
  | none => 0

/-- The berth units that a reservation holds on lane n (R21). -/
def Reservation.unitsOn (n : Nat) (r : Reservation) : Option Nat :=
  match r.resource with
  | .berth lane units => if lane = n then some units else none
  | _ => none

/-- The units of the berth reservations held against lane n, oldest first. -/
def Part.reservedUnits (p : Part) (n : Nat) : List Nat := p.xe.reservations.filterMap (Reservation.unitsOn n)

/-- Units used: entries, inbound allocations and berth reservations (R21). -/
def Part.unitsUsed (p : Part) (n : Nat) : Nat :=
  match p.lane n with
  | some l => (l.entries.map (·.units)).sum + (l.allocs.map (·.units)).sum + (p.reservedUnits n).sum
  | none => 0

/-- Free units: the length less the units used (R21). -/
def Part.freeUnits (p : Part) (n : Nat) : Nat :=
  match p.lane n with
  | some l => l.length - p.unitsUsed n
  | none => 0

/-- Places in use: entries, inbound allocations and berth reservations (R21). -/
def Part.placesInUse (p : Part) (n : Nat) : Nat :=
  match p.lane n with
  | some l => l.entries.length + l.allocs.length + (p.reservedUnits n).length
  | none => 0

/-- A claim of `units` fits on lane n: both bounds of R21 hold with it. -/
def Part.fits (p : Part) (n units : Nat) : Bool :=
  match p.lane n with
  | some l => p.unitsUsed n + units ≤ l.length && p.placesInUse n < 12
  | none => false

/-- The lane and position of the entry with a fleet number (R20: there is at most one). -/
def Part.findEntry (p : Part) (fleet : Nat) : Option (Nat × Nat) :=
  p.laneNumbers.findSome? fun n =>
    (p.lane n).bind fun l => (l.entries.findIdx? fun e => e.fleet == fleet).map fun k => (n, k)

/-- The lane and position of a record's TRACKED entry. -/
def Part.entryOf (p : Part) (i : Nat) : Option (Nat × Nat) :=
  p.laneNumbers.findSome? fun n =>
    (p.lane n).bind fun l => (l.entries.findIdx? fun e => e.kind == .tracked i).map fun k => (n, k)

/-- The lane of a record's inbound allocation. -/
def Part.allocOf (p : Part) (i : Nat) : Option Nat :=
  p.laneNumbers.find? fun n =>
    match p.lane n with
    | some l => l.allocs.any fun a => a.record == i
    | none => false

/-- A record's inbound allocation is freed, on whichever lane it lies. -/
def freeAlloc (i : Nat) (p : Part) : Part :=
  { p with lm := { p.lm with lanes := p.lm.lanes.map fun l => { l with allocs := l.allocs.filter fun a => a.record != i } } }

/-- The unconfirmed flag of an entry's record is written as the entry's flag is (R9, R32). -/
def mirrorFlag (e : Entry) (flag : Bool) (p : Part) : Part :=
  match e.kind with
  | .tracked i => modRecord i (fun r => { r with unconfirmed := flag }) p
  | _ => p

/-- The entries of a lane with the flags of the first k set. -/
def Lane.markFirst (k : Nat) (l : Lane) : Lane :=
  { l with entries := (l.entries.take k).map (fun e => { e with unconfirmed := true }) ++ l.entries.drop k }

/-- The first k entries of lane n have their unconfirmed flag set, and their records' flags with them (R32). -/
def markAhead (n k : Nat) (p : Part) : Part :=
  match p.lane n with
  | none => p
  | some l => (l.entries.take k).foldl (fun q e => mirrorFlag e true q) (modLane n (Lane.markFirst k) p)

/-- The entry at position k of lane n leaves the list. -/
def eraseEntry (n k : Nat) (p : Part) : Part := modLane n (fun l => { l with entries := l.entries.eraseIdx k }) p

/-- The entry of record i, if it is this one, as OUTBOUND. -/
def Entry.outboundIf (i : Nat) (e : Entry) : Entry := if e.kind == .tracked i then { e with kind := .outbound } else e

/-- A record's TRACKED entry becomes OUTBOUND, with units, place and unconfirmed flag kept (R31). -/
def makeOutbound (i : Nat) (p : Part) : Part :=
  { p with lm := { p.lm with lanes := p.lm.lanes.map fun l => { l with entries := l.entries.map (Entry.outboundIf i) } } }

/-- An entry's record is AWARDED. -/
def Part.entryAwarded (p : Part) (e : Entry) : Bool :=
  match e.kind with
  | .tracked i => p.recordIs i .awarded
  | _ => false

/-- An entry counts towards depth: it is neither OUTBOUND nor AWARDED (R145). -/
def Part.counts (p : Part) (e : Entry) : Bool := e.kind != .outbound && !p.entryAwarded e

/-- The entries ahead of a record's entry, with the lane (R145). -/
def Part.ahead (p : Part) (i : Nat) : Option (Nat × List Entry) :=
  (p.entryOf i).bind fun (n, k) => (p.lane n).map fun l => (n, l.entries.take k)

/-- The depth d of a parked bus (R145). -/
def Part.depth (p : Part) (i : Nat) : Option Nat :=
  (p.ahead i).map fun (_, es) => es.countP p.counts

/-! ### Small list helpers -/

/-- The item with the least key; the first of equals. -/
def leastBy (key : α → Nat) : List α → Option α
  | [] => none
  | a :: rest =>
    match leastBy key rest with
    | none => some a
    | some b => if key b < key a then some b else some a

end Sys2Proof.Machine
end

