-- ==== Sys2Proof/Machine/ExchangeOps.lean ====
section
/-! DEFINITION. The Exchange Engine's tables (chapter 4): opening, freeing and closing exchanges, the calling-wanted order,
questions, answers and reservations. -/

namespace Sys2Proof.Machine

/-! ### Exchanges (R64, R73) -/

/-- The open exchange of a record. One that R73 has closed and whose entry still waits for a verdict is none
(log entry 17). -/
def Part.exchangeOf (p : Part) (i : Nat) : Option Exchange := p.xe.exchanges.find? fun e => e.record == i && !e.closing

/-- The exchange table's entry of an id. -/
def Part.exchange (p : Part) (id : Nat) : Option Exchange := p.xe.exchanges.find? fun e => e.id == id

/-- The lowest free entry of the exchange table (R63, R64). -/
def Part.freeExchangeId (p : Part) : Option Nat := [0, 1, 2, 3].find? fun id => (p.exchange id).isNone

/-- The entry of an id is changed. -/
def modExchange (id : Nat) (f : Exchange → Exchange) (p : Part) : Part :=
  { p with xe := { p.xe with exchanges := p.xe.exchanges.map fun e => if e.id == id then f e else e } }

/-- A wait timer of one call spacing (R66, R69). -/
def Part.spacingWait (p : Part) : Option Nat := some (p.setting (·.spacing))

/-- The spacing timer starts (R65). -/
def startSpacing (p : Part) : Part := { p with xe := { p.xe with spacing := p.spacingWait } }

/-- An exchange opens in an entry, PENDING and with all counts 0; its wait timer starts where the node is not ACTIVE
(R64, R75). -/
def openExchange (id i : Nat) (w : WantedCall) (p : Part) : Part :=
  let e : Exchange :=
    { id := id, kind := w.kind, record := i, requester := w.requester, excluded := w.excluded, state := .pending,
      callFailures := 0, winner := none, transferFailures := 0, wait := if p.active then none else p.spacingWait,
      closing := false, gone := false }
  modRecord i (fun r => { r with lastCall := some w.kind }) { p with xe := { p.xe with exchanges := p.xe.exchanges ++ [e] } }

/-- A record leaves the calling-wanted order and its flag is cleared (R9). -/
def dropWanted (i : Nat) (p : Part) : Part :=
  modRecord i (fun r => { r with wanted := none })
    { p with rs := { p.rs with wantedOrder := p.rs.wantedOrder.filter (· != i) } }

/-- A record joins the tail of the calling-wanted order, or has its wanted call replaced in its place (R9). -/
def joinWanted (i : Nat) (w : WantedCall) (p : Part) : Part :=
  modRecord i (fun r => { r with wanted := some w })
    (if p.rs.wantedOrder.contains i then p
     else { p with rs := { p.rs with wantedOrder := p.rs.wantedOrder ++ [i] } })

/-- The oldest record of the calling-wanted order gets a free entry (R9, R64). -/
def takeWanted (p : Part) : Part :=
  match p.rs.wantedOrder, p.freeExchangeId with
  | i :: _, some id =>
    match (p.record i).bind (·.wanted) with
    | some w => openExchange id i w (dropWanted i p)
    | none => dropWanted i p
  | _, _ => p

/-- A record is on the blocker list of a dig (R163). -/
def Part.isBlocker (p : Part) (i : Nat) : Bool := p.du.digs.any fun d => d.blockers.any fun b => b.1 == i

/-- A shunt flag is cleared (R9). -/
def clearShunt (i : Nat) (p : Part) : Part := modRecord i (fun r => { r with shunt := false }) p

/-- A frame is no longer one of those that became ready (R65). -/
def unready (k : FrameKey) (p : Part) : Part := { p with xe := { p.xe with ready := p.xe.ready.filter (· != k) } }

/-- An exchange's entry is freed, its ready frames with it, and goes to the oldest calling-wanted record in the same step
(R64, R65). A closed shunt's shunt flag goes with it (R172). -/
def freeExchange (e : Exchange) (p : Part) : Part :=
  let q := { p with xe := { p.xe with exchanges := p.xe.exchanges.filter fun x => x.id != e.id } }
  let q := unready (.transfer e.id) (unready (.call e.id) q)
  let q := if e.closing && e.requester == .du && !e.gone && !q.isBlocker e.record then clearShunt e.record q else q
  takeWanted q

/-- The call of a PENDING exchange is replaced by one of another kind, whose frame is ready from now on (R64, R65; log entry
11). -/
def replaceKind (e : Exchange) (kind : CallKind) (p : Part) : Part :=
  if e.kind = kind then p else unready (.call e.id) (modExchange e.id (fun x => { x with kind := kind }) p)

/-- A request for an exchange (R64): it replaces a PENDING exchange's kind, is refused in a later state, opens the lowest
free entry, or joins the calling-wanted order. -/
def requestExchange (i : Nat) (w : WantedCall) (p : Part) : Part :=
  match p.exchangeOf i with
  | some e =>
    if e.state == .pending then
      modRecord i (fun r => { r with lastCall := some w.kind }) (replaceKind e w.kind p)
    else p
  | none =>
    match p.freeExchangeId with
    | some id => openExchange id i w p
    | none => joinWanted i w p

/-- The key of the frame in the transmit place. -/
def Part.txKey (p : Part) : Option FrameKey := p.lif.tx.map (·.key)

/-- The frame in the transmit place is changed, if it is the one of a key. -/
def modTx (k : FrameKey) (f : TxPlace → TxPlace) (p : Part) : Part :=
  match p.lif.tx with
  | some t => if t.key == k then { p with lif := { p.lif with tx := some (f t) } } else p
  | none => p

/-- A record's open exchange is closed (R73): its entry is freed at once, or at the verdict that is due. -/
def closeExchange (i : Nat) (p : Part) : Part :=
  match p.exchangeOf i with
  | none => p
  | some e =>
    if e.state == .called || (e.state == .handover && p.txKey == some (.transfer e.id)) then
      modExchange e.id (fun x => { x with closing := true }) p
    else freeExchange e p

/-- A deleted record's closed exchanges no longer stand for it (R69). -/
def exchangesGone (i : Nat) (p : Part) : Part :=
  { p with xe := { p.xe with exchanges := p.xe.exchanges.map fun e => if e.record == i then { e with gone := true } else e } }

/-- A record has an exchange in HANDOVER that still stands for it (R77, R80). -/
def Part.inHandover (p : Part) (i : Nat) : Bool :=
  p.xe.exchanges.any fun e => e.record == i && e.state == .handover && !e.gone

/-! ### Questions (R76) -/

/-- The question of a record. -/
def Part.questionOf (p : Part) (i : Nat) : Option Question := p.xe.questions.find? fun q => q.record == i

/-- A record's question is changed. -/
def modQuestion (i : Nat) (f : Question → Question) (p : Part) : Part :=
  { p with xe := { p.xe with questions := p.xe.questions.map fun q => if q.record == i then f q else q } }

/-- A record's question is closed and its entry freed; its frame in the transmit place runs to a verdict that changes
nothing (R76). -/
def closeQuestion (i : Nat) (p : Part) : Part :=
  unready (.question i) <| modTx (.question i) (fun t => { t with stale := true })
    { p with xe := { p.xe with questions := p.xe.questions.filter fun q => q.record != i } }

/-- A question for a record enters the question list, WAITING, in place of its earlier one (R76). -/
def askWhereabouts (i : Nat) (gate : Bool) (p : Part) : Part :=
  let q := closeQuestion i p
  { q with xe := { q.xe with questions := q.xe.questions ++
      [{ record := i, fleet := q.fleetOf i, gate := gate, state := .waiting, failures := 0, wait := none,
         answerTimer := none }] } }

/-- The asker adopts the bus and the question becomes OVER (R82). The repeat timer of a doubled record stops; an APRON
record's repeat timer is not that timer (log entry 20). -/
def adopt (i : Nat) (p : Part) : Part :=
  queueReport (.adopted (p.fleetOf i)) <|
    modQuestion i (fun q => { q with state := .over, wait := none, answerTimer := none }) <|
      modRecord i (fun r =>
        { r with stray := false, doubled := false, census := false,
                 repeatTimer := if r.doubled && r.place != .apron then none else r.repeatTimer }) p

/-! ### Answers (R79) -/

/-- The answer of a record. -/
def Part.answerOf (p : Part) (i : Nat) : Option Answer := p.xe.answers.find? fun a => a.record == i

/-- A record's answer is changed. -/
def modAnswer (i : Nat) (f : Answer → Answer) (p : Part) : Part :=
  { p with xe := { p.xe with answers := p.xe.answers.map fun a => if a.record == i then f a else a } }

/-- A record's answer is freed. -/
def freeAnswer (i : Nat) (p : Part) : Part :=
  unready (.answer i) { p with xe := { p.xe with answers := p.xe.answers.filter fun a => a.record != i } }

/-- An answer enters the answer list, in place of the record's earlier one, or is dropped and reported where the list is
full (R79). The frame of a replaced answer runs to its verdict. -/
def enterAnswer (a : Answer) (p : Part) : Part :=
  let q := if (p.answerOf a.record).isSome then
      modTx (.answer a.record) (fun t => { t with stale := true }) (freeAnswer a.record p)
    else p
  if q.xe.answers.length < 8 then { q with xe := { q.xe with answers := q.xe.answers ++ [a] } }
  else queueReport (.answerDropped a.fleet a.asker) q

/-! ### Reservations (R68) -/

/-- A reservation-table entry matches a caller and an exchange id. -/
def Reservation.is (caller callId : Nat) (r : Reservation) : Bool := r.caller == caller && r.callId == callId

/-- The reservation of a caller and an exchange id. -/
def Part.reservation (p : Part) (caller callId : Nat) : Option Reservation :=
  p.xe.reservations.find? (Reservation.is caller callId)

/-- The reservation of a caller and an exchange id is released; what it held is free at once (R68). -/
def releaseReservation (caller callId : Nat) (p : Part) : Part :=
  { p with xe := { p.xe with reservations := p.xe.reservations.filter fun r => !r.is caller callId } }

/-- Every OFFERING reservation is released (R68, R74). -/
def releaseOffering (p : Part) : Part :=
  { p with xe := { p.xe with reservations := p.xe.reservations.filter (·.held) } }

end Sys2Proof.Machine
end

