-- ==== Sys2Proof/Machine/DepartureOps.lean ====
section
/-! DEFINITION. The Departure Unit's operations (chapters 8 and 9): notices, the end of a dig, withdrawals and give-ups,
calling and losing blockers, departures. -/

namespace Sys2Proof.Machine

/-! ### Notices (R84, R157) -/

/-- A DEPART NOTICE is handed over: its report is queued at once and it joins the notice list, or is dropped and reported
where the list is full (R84, R157). -/
def handNotice (kind : NoticeKind) (fleet slot laneAlias : Nat) (p : Part) : Part :=
  let n : Notice := { fleet := fleet, slot := slot, laneAlias := laneAlias, kind := kind, tag := p.yc.seconds }
  let q := queueReport (.departNotice n) p
  if q.xe.notices.length < 8 then
    { q with xe := { q.xe with notices := q.xe.notices ++ [{ notice := n, failures := 0 }] } }
  else queueReport (.noticeDropped fleet slot) q

/-! ### Awards and digs -/

/-- The award-list entry of a slot. -/
def Part.awardOfSlot (p : Part) (slot : Nat) : Option Award := p.du.awards.find? fun a => a.slot == slot

/-- The award-list entry of a record. -/
def Part.awardOf (p : Part) (i : Nat) : Option Award := p.du.awards.find? fun a => a.record == i

/-- The award-list entry of a slot is changed. -/
def modAward (slot : Nat) (f : Award → Award) (p : Part) : Part :=
  { p with du := { p.du with awards := p.du.awards.map fun a => if a.slot == slot then f a else a } }

/-- The award-list entry of a slot is removed, its timer with it. -/
def dropAward (slot : Nat) (p : Part) : Part :=
  { p with du := { p.du with awards := p.du.awards.filter fun a => a.slot != slot } }

/-- The dig of a lane. -/
def Part.digOf (p : Part) (lane : Nat) : Option Dig := p.du.digs.find? fun d => d.lane == lane

/-- The dig of a lane is changed. -/
def modDig (lane : Nat) (f : Dig → Dig) (p : Part) : Part :=
  { p with du := { p.du with digs := p.du.digs.map fun d => if d.lane == lane then f d else d } }

/-- A record's exchange is closed and its wanted call dropped. -/
def closeCalls (i : Nat) (p : Part) : Part := closeExchange i (dropWanted i p)

/-- The shunt flag of a record is cleared, unless a closed shunt exchange of it still waits for its verdict (R172). -/
def clearShuntUnlessClosing (i : Nat) (p : Part) : Part :=
  if p.xe.exchanges.any fun e => e.record == i && e.closing && e.requester == .du && !e.gone then p else clearShunt i p

/-- The lane entry of a record has its unconfirmed flag set (R32). -/
def Part.entryMarked (p : Part) (i : Nat) : Bool :=
  match p.entryOf i with
  | some (n, k) => ((p.lane n).bind fun l => l.entries[k]?).any (·.unconfirmed)
  | none => false

/-- A blocker's shunt flag is cleared as its dig ends: at once where a mark on its entry has removed it from the blocker list
(R170), else as R172 says. -/
def clearShuntAtEnd (i : Nat) (p : Part) : Part :=
  if p.entryMarked i then clearShunt i p else clearShuntUnlessClosing i p

/-- A dig ends (R172). DESIGN CHOICE (log entry 59): a call of its current blocker that still waits in the calling-wanted order is
dropped with it. -/
def endDig (d : Dig) (cause : DigCause) (p : Part) : Part :=
  let q := { p with du := { p.du with digs := p.du.digs.filter fun x => x.lane != d.lane } }
  let q := match d.current with
    | some (i, _) => closeCalls i q
    | none => q
  let q := d.blockers.foldl (fun q b => clearShuntAtEnd b.1 q) q
  let q := modLane d.lane (fun l => { l with state := .opened }) q
  let q := modAward d.slot (fun a => { a with mode := .direct }) q
  queueReport (.digEnded d.slot d.targetFleet (q.aliasOf d.lane) cause) q

/-- The dig of a DIGGING award ends. -/
def endDigOf (a : Award) (cause : DigCause) (p : Part) : Part :=
  if a.mode == .digging then
    match p.du.digs.find? fun d => d.slot == a.slot with
    | some d => endDig d cause p
    | none => p
  else p

/-- An award is withdrawn (R153); `cause` is the one of DIG_ENDED where its dig ends with it. -/
def withdraw (a : Award) (notice : Option NoticeKind) (cause : DigCause) (p : Part) : Part :=
  let q := modRecord a.record (fun r => { r with award := none }) (dropAward a.slot p)
  let q := endDigOf a cause q
  let q := modRecord a.record (fun r => if r.place == .awarded then { r with place := .parked } else r) q
  match notice with
  | some k => handNotice k a.fleet a.slot (q.aliasOf a.lane) q
  | none => q

/-- A dig gives up (R173). -/
def giveUp (d : Dig) (cause : DigCause) (p : Part) : Part :=
  match p.awardOfSlot d.slot with
  | some a => withdraw a (some .givenUp) cause p
  | none => endDig d cause p

/-- An award is withdrawn with MISSED and reported so (R155). -/
def missAward (a : Award) (p : Part) : Part :=
  queueReport (.awardMissed a.slot a.fleet) (withdraw a (some .missed) .targetWithdrawn p)

/-- The award of a record whose entry giving way or a census removes is withdrawn: MISSED, or GIVEN_UP under a dig (R27,
R34, R153). -/
def loseAward (i : Nat) (p : Part) : Part :=
  match p.awardOf i with
  | some a => withdraw a (some (if a.mode == .digging then .givenUp else .missed)) .targetWithdrawn p
  | none => p

/-- The award of a record whose bus has turned up elsewhere is withdrawn with UNREAD_EXIT (R78, R158). -/
def unreadExit (i : Nat) (p : Part) : Part :=
  match p.awardOf i with
  | some a => withdraw a (some .unreadExit) .targetWithdrawn p
  | none => p

/-! ### Blockers (R165, R170) -/

/-- The wanted call of a shunt. -/
def shuntCall (p : Part) (lane : Nat) : WantedCall :=
  { kind := .berth, requester := .du, excluded := some (p.aliasOf lane) }

/-- A blocker is called (R165). -/
def callBlocker (lane : Nat) (b : Nat × Nat) (p : Part) : Part :=
  let q := modDig lane (fun d => { d with phase := .calling, current := some b, shunted := none }) p
  let q := modRecord b.1 (fun r => { r with shunt := true, attempts := 0 }) q
  requestExchange b.1 (shuntCall q lane) q

/-- A record leaves the blocker list it is on, its shunt flag with it, and its exchange is closed where it is the current
blocker (R170). What the dig does next follows when the command's changes are complete (log entry 10); a blocker that is
read again is log entry 23. -/
def dropBlocker (i : Nat) (p : Part) : Part :=
  match p.du.digs.find? fun d => d.blockers.any fun b => b.1 == i with
  | none => p
  | some d =>
    let isCurrent := match d.current with
      | some c => c.1 == i
      | none => false
    let q := modDig d.lane (fun d =>
      { d with blockers := d.blockers.filter fun b => b.1 != i, current := if isCurrent then none else d.current }) p
    clearShunt i (if isCurrent then closeCalls i q else q)

end Sys2Proof.Machine
end

