-- ==== Sys2Proof/Machine/IntakeOps.lean ====
section
/-! DEFINITION. The Intake Unit's outputs: the end of a hold and the guidance given after it (R92 to R96). -/

namespace Sys2Proof.Machine

/-- A hold ends: the gate display shows the destination, the barrier is released, the timer stops and the gate is IDLE
(R92 to R95). -/
def endHold (fleet : Nat) (shown : Shown) (reason : ApronReason) (p : Part) : Part :=
  let q := produce (.barrier true) (produce (.guidance fleet .gate shown reason) p)
  { q with iu := { q.iu with intake := none, holdTimer := none } }

/-- The gate holds this record (R91). -/
def Part.holds (p : Part) (i : Nat) : Bool :=
  match p.iu.intake with
  | some t => t.record == i
  | none => false

/-- The current intake's record is deleted or its place cleared (R95). -/
def intakeForget (i : Nat) (p : Part) : Part :=
  if p.holds i then endHold (p.fleetOf i) .apron .withdrawn p else p

/-- Guidance to a placed bus after its hold, with its report (R96). -/
def lateGuidance (fleet : Nat) (shown : Shown) (p : Part) : Part :=
  queueReport (.lateGuidance fleet shown) (produce (.guidance fleet .late shown .none) p)

end Sys2Proof.Machine
end

