-- ==== Sys2Proof/Machine/TurnOps.lean ====
section
/-! DEFINITION. The Turn Scheduler's shared operations (chapter 6): stations and displays, the turn queue and the request
set, resolution and grants, and what a record's removal does to the point. -/

namespace Sys2Proof.Machine

/-! ### Stations and displays (R100, R101) -/

/-- The station of a number, 1 upward. -/
def Part.station (p : Part) (k : Nat) : Option Station := if k = 0 then none else p.ts.stations[k - 1]?

/-- The configured station numbers, ascending. -/
def Part.stationNumbers (p : Part) : List Nat := (List.range p.ts.stations.length).map (· + 1)

/-- The station line of a state (R100). -/
def StationState.line : StationState → StationLine
  | .free => .blank
  | .granted => .call
  | .inService => .serving
  | .fault => .outOfService

/-- The fleet number on the station line, 0 where the line carries none. -/
def Station.lineFleet (st : Station) : Nat :=
  match st.state with
  | .granted | .inService => st.fleet
  | _ => 0

/-- A station's STATION DISPLAY message (R101). -/
def Station.display (k : Nat) (st : Station) : Output :=
  .stationDisplay k st.state.line st.lineFleet st.guidance

/-- A station is written; a change of either line of its display is sent (R101). -/
def putStation (k : Nat) (new : Station) (p : Part) : Part :=
  match p.station k with
  | none => p
  | some old =>
    let q := { p with ts := { p.ts with stations := p.ts.stations.set (k - 1) new } }
    if old.display k == new.display k then q else produce (new.display k) q

/-- A station with no turn, in state FREE or FAULT (R100). -/
def Station.idle (st : Station) (state : StationState) : Station :=
  { st with state := state, record := none, fleet := 0, level := none, startTag := 0, energyBefore := none, timer := none }

/-- A station serves a record of this fuel kind (R100). -/
def Part.serves (p : Part) (st : Station) (fuel : FuelKind) : Bool :=
  match p.ts.kind with
  | some .wash => true
  | some .fuel => st.fuel == some fuel && fuel != .unknown
  | none => false

/-- GRANTED or IN_SERVICE (R100). -/
def Station.busy (st : Station) : Bool := st.state == .granted || st.state == .inService

/-! ### The turn queue and the request set (R102, R103) -/

/-- A record takes a place of the turn queue (R102). -/
def Rec.inQueue (r : Rec) : Bool :=
  match r.place with
  | .queued | .granted => true
  | .enRoute => match r.destination with
    | some (.point _) => true
    | _ => false
  | _ => false

/-- The queue places that reservations hold (R102). -/
def Part.queueReservations (p : Part) : Nat :=
  p.xe.reservations.countP fun r => match r.resource with
    | .place .. => true
    | _ => false

/-- The queue places in use, P (R102, R106). -/
def Part.queuePlaces (p : Part) : Nat :=
  (p.rs.store.countP fun o => match o with
    | some r => r.inQueue
    | none => false) + p.queueReservations

/-- A record's request leaves the level lists and the retry order. -/
def removeRequest (i : Nat) (p : Part) : Part :=
  { p with ts := { p.ts with
    levels := p.ts.levels.map fun l => l.filter (· != i)
    retryOrder := p.ts.retryOrder.filter fun q => q.1 != i } }

/-- A request joins the tail of a level's list (R103). -/
def joinTail (level i : Nat) (p : Part) : Part :=
  { p with ts := { p.ts with levels := p.ts.levels.modify level fun l => l ++ [i] } }

/-- A displaced request joins the front of a level's list (R103; log entry 18). -/
def joinFront (level i : Nat) (p : Part) : Part :=
  { p with ts := { p.ts with levels := p.ts.levels.modify level fun l => i :: l } }

/-- A marked request joins the tail of the retry order with its level (R103, R120). -/
def joinRetry (level i : Nat) (p : Part) : Part :=
  { p with ts := { p.ts with retryOrder := p.ts.retryOrder ++ [(i, level)] } }

/-- A record's service class, the level it takes on joining (R103). -/
def Part.levelOf (p : Part) (i : Nat) : Nat :=
  match p.record i with
  | some r => r.serviceClass
  | none => 0

/-- The level of a record's request: of the retry order, else of its level list. -/
def Part.requestLevel (p : Part) (i : Nat) : Option Nat :=
  match p.ts.retryOrder.find? fun q => q.1 == i with
  | some q => some q.2
  | none => p.ts.levels.findIdx? fun l => l.contains i

/-! ### Resolution (R109, R112) -/

/-- A level is held (R108). -/
def Part.levelHeld (p : Part) (level : Nat) : Bool := p.ts.heldLevels.contains level

/-- A request's record is served by a station. -/
def Part.serveable (p : Part) (st : Station) (i : Nat) : Bool :=
  match p.record i with
  | some r => p.serves st r.fuel
  | none => false

/-- A request, the record of which is QUEUED (R103), is served by a station. -/
def Part.waitsFor (p : Part) (st : Station) (i : Nat) : Bool := p.recordIs i .queued && p.serveable st i

/-- The first request of the retry order that is not held and is served (R109, 1). -/
def Part.chooseRetry (p : Part) (st : Station) : Option (Nat × Nat) :=
  p.ts.retryOrder.find? fun q => !p.levelHeld q.2 && p.waitsFor st q.1

/-- The first served request of the first level of the priority order that is not held and has one (R109, 2). -/
def Part.chooseLevel (p : Part) (st : Station) : Option (Nat × Nat) :=
  p.ts.order.findSome? fun level =>
    if p.levelHeld level then none
    else ((p.ts.levels.getD level []).find? (p.waitsFor st)).map fun i => (i, level)

/-- The request, with its level, that a station would take (R109). -/
def Part.choose (p : Part) (st : Station) : Option (Nat × Nat) :=
  match p.chooseRetry st with
  | some c => some c
  | none => p.chooseLevel st

/-- Station k is granted to record i at a level (R112). -/
def grant (k : Nat) (st : Station) (i level : Nat) (p : Part) : Part :=
  putStation k
    { st with state := .granted, record := some i, fleet := p.fleetOf i, level := some level, startTag := 0,
              energyBefore := none, timer := some p.ts.grantLimit }
    (modRecord i (fun r => { r with place := .granted }) (removeRequest i p))

/-- Resolution at one station. -/
def resolveStation (p : Part) (k : Nat) : Part :=
  match p.station k with
  | some st =>
    if st.state == .free then
      match p.choose st with
      | some (i, level) => grant k st i level p
      | none => p
    else p
  | none => p

/-- Resolution (R109): on an OPEN point, each FREE station in station-number order. -/
def resolve (p : Part) : Part :=
  if p.ts.kind.isSome && p.ts.opened then p.stationNumbers.foldl resolveStation p else p

/-! ### Removals (R125) -/

/-- The station that a record is GRANTED or IN_SERVICE at. -/
def Part.stationOf (p : Part) (i : Nat) : Option (Nat × Station) :=
  p.stationNumbers.findSome? fun k =>
    (p.station k).bind fun st => if st.busy && st.record == some i then some (k, st) else none

/-- The Turn Scheduler is told that a record's place is cleared or the record deleted (R125). -/
def turnsForget (i : Nat) (p : Part) : Part :=
  let q := removeRequest i p
  match q.stationOf i with
  | none => q
  | some (k, st) =>
    if st.state == .granted then resolve (putStation k (st.idle .free) q)
    else putStation k { st with record := none, level := none } q

/-! ### Service offers (R105, R106) -/

/-- The stations that serve a call: of its fuel kind at a FUEL point, all at a WASH point (R106). -/
def Part.servingStations (p : Part) (fuel : FuelKind) : List Station := p.ts.stations.filter fun st => p.serves st fuel

/-- The available stations that serve a call, A (R106). -/
def Part.available (p : Part) (fuel : FuelKind) : Nat := (p.servingStations fuel).countP fun st => st.state != .fault

/-- The busy stations that serve a call, B (R106). -/
def Part.busyStations (p : Part) (fuel : FuelKind) : Nat := (p.servingStations fuel).countP Station.busy

/-- The cost of a service offer (R106). -/
def Part.serviceCost (p : Part) (fuel : FuelKind) : Nat :=
  (p.queuePlaces + p.busyStations fuel) * 64 / p.available fuel

/-- The point names an offer on a call of a kind (R105, R126). -/
def Part.namesService (p : Part) (kind : ServiceKind) (fuel : FuelKind) : Bool :=
  p.ts.kind == some kind && p.ts.opened && 1 ≤ p.available fuel && (kind == .fuel || p.yc.washOpen) && p.queuePlaces < 16

end Sys2Proof.Machine
end

