-- ==== Sys2Proof/Machine/RecordOps.lean ====
section
/-! DEFINITION. The Record Store's shared operations (chapter 1): becoming LOOSE, clearing a place, deleting, creating,
merging, the routing rule, and what an exchange's outcome does to its record. -/

namespace Sys2Proof.Machine

/-! ### LOOSE (R12) -/

/-- A record becomes LOOSE (R12). Its unconfirmed flag goes with its lane (R9). -/
def becomeLoose (i : Nat) (p : Part) : Part :=
  modRecord i (fun r =>
    { r with place := .loose, destination := none, placeTimer := some Config.looseLimit, repeatTimer := none,
             shunt := false, unconfirmed := false })
    (dropBlocker i (closeCalls i p))

/-! ### Clearing and deleting (R16) -/

/-- What becomes of a record's lane entry: OUTBOUND on a TRANSFER, removed on a RELEASE or a gate reuse (R16, R31). -/
inductive EntryFate where
  | outbound | removed
  deriving DecidableEq, Repr

/-- The entry at position k of lane n is removed without a read of it; those ahead are marked, and the fault reported
(R31). -/
def takeEntry (n k fleet : Nat) (p : Part) : Part :=
  let q := eraseEntry n k (markAhead n k p)
  if k = 0 then q else queueReport (.orderFault (q.aliasOf n) fleet .taken) q

/-- The Lane Map is told (R16, R31). -/
def lanesForget (fate : EntryFate) (i : Nat) (p : Part) : Part :=
  match fate with
  | .outbound => freeAlloc i (makeOutbound i p)
  | .removed =>
    match p.entryOf i with
    | some (n, k) => freeAlloc i (takeEntry n k (p.fleetOf i) p)
    | none => freeAlloc i p

/-- The Departure Unit is told (R16; log entry 22). -/
def departuresForget (i : Nat) (p : Part) : Part := dropBlocker i (unreadExit i p)

/-- The Exchange Engine is told (R16). -/
def engineForget (i : Nat) (p : Part) : Part := closeQuestion i (closeCalls i p)

/-- A record's place is cleared by the notifications of R16, in the order of its table; its index and its fields stay. -/
def clearPlace (fate : EntryFate) (i : Nat) (p : Part) : Part :=
  intakeForget i (engineForget i (departuresForget i (turnsForget i (lanesForget fate i p))))

/-- A record is deleted (R16): its place is cleared, its answer is freed unsent (R79), an exchange of it that waits for a
verdict no longer stands for it (R69), and its index is free. -/
def deleteRecord (fate : EntryFate) (i : Nat) (p : Part) : Part :=
  let q := clearPlace fate i p
  let q := modTx (.answer i) (fun t => { t with gone := true }) (freeAnswer i (exchangesGone i q))
  putRecord i none q

/-- A departure (R156): award and dig end, the notice is handed over, the record is deleted. Its entry has gone with the
exit read. -/
def depart (i n : Nat) (p : Part) : Part :=
  match p.awardOf i with
  | some a =>
    let q := endDigOf a .targetDeparted (dropAward a.slot p)
    deleteRecord .removed i (handNotice .departed a.fleet a.slot (q.aliasOf n) q)
  | none => deleteRecord .removed i p

/-! ### Creating and merging (R3, R5) -/

/-- A tag as read: codes read and values clamped (R1). -/
structure Tag where
  fleet : Nat
  fuel : FuelKind
  lengthClass : LengthClass
  serviceClass : Nat
  energy : Option Nat
  washDue : Bool
  deriving DecidableEq, Repr

/-- A record with the starting values of R3 in a place, from a tag. -/
def Tag.record (t : Tag) (place : PlaceState) : Rec where
  fleet := t.fleet
  fuel := t.fuel
  lengthClass := t.lengthClass
  serviceClass := t.serviceClass
  energy := t.energy
  washDue := t.washDue
  washed := false
  place := place
  destination := none
  age := 0
  stray := false
  doubled := false
  unconfirmed := false
  census := false
  fuelSkipped := false
  washSkipped := false
  shunt := false
  wanted := none
  lapses := 0
  retries := 0
  attempts := 0
  outcome := none
  award := none
  placeTimer := none
  repeatTimer := none
  lastCall := none
  lastLane := none

/-- The record created by a census line of lane n (R3). -/
def censusRecord (n fleet : Nat) (cls : LengthClass) : Rec :=
  { Tag.record { fleet := fleet, fuel := .unknown, lengthClass := cls, serviceClass := 0, energy := none, washDue := false }
      .parked with stray := true, census := true, lastLane := some n }

/-- The record created by an accepted TRANSFER, before it takes its place (R3, R13). -/
def Image.record (m : Image) (lastCall : Option CallKind) : Rec :=
  { Tag.record { fleet := m.fleet, fuel := m.fuel, lengthClass := m.lengthClass, serviceClass := m.serviceClass,
                 energy := m.energy, washDue := m.washDue } .enRoute with
    washed := m.washed, fuelSkipped := m.fuelSkipped, washSkipped := m.washSkipped, attempts := m.attempts,
    age := m.age, outcome := m.outcome, lastCall := lastCall }

/-- A fuel kind that is presented fills an UNKNOWN one (R3). -/
def FuelKind.fill (held presented : FuelKind) : FuelKind := if held == .unknown then presented else held

/-- An image is merged into a record (R5). The repeat timer of a doubled record stops; an APRON record's repeat timer is
not that timer (log entry 20). -/
def Rec.merge (m : Image) (r : Rec) : Rec :=
  { r with
    energy := m.energy
    washed := m.washed
    washDue := m.washDue
    serviceClass := m.serviceClass
    age := m.age
    outcome := if m.outcome.isSome then m.outcome else r.outcome
    fuel := r.fuel.fill m.fuel
    stray := false
    doubled := false
    census := false
    repeatTimer := if r.doubled && r.place != .apron then none else r.repeatTimer }

/-- A new record takes the lowest free index (R2). -/
def createRecord (r : Rec) (p : Part) : Part :=
  match p.freeIndex with
  | some i => putRecord i (some r) p
  | none => p

/-- A record stands in a lane: PARKED, or AWARDED if it was (R25, R34). A doubled record's repeat timer starts afresh where
it newly becomes PARKED (R6, log entry 20). -/
def Rec.park (repeatInterval : Nat) (r : Rec) : Rec :=
  if r.place == .parked || r.place == .awarded then { r with unconfirmed := false }
  else
    { r with place := .parked, destination := none, unconfirmed := false, placeTimer := none,
             repeatTimer := if r.doubled then some repeatInterval else none }

/-- A record takes a reservation as its place: EN_ROUTE with its destination, the inbound limit running (R11, R70, R71). -/
def takePlace (i : Nat) (resource : Resource) (p : Part) : Part :=
  let enRoute (d : Destination) (p : Part) : Part :=
    modRecord i (fun r => { r with place := .enRoute, destination := some d, unconfirmed := false,
                                   placeTimer := some Config.inboundLimit, repeatTimer := none }) p
  match resource with
  | .berth lane units =>
    enRoute (.lane lane) (modLane lane (fun l => { l with allocs := l.allocs ++ [{ record := i, units := units }] }) p)
  | .place kind _ => enRoute (.point kind) p
  | .bid .. => p

/-! ### The routing rule (R13) -/

/-- The choice at the intake decision point. -/
def Part.intakeChoice (p : Part) (r : Rec) : CallKind :=
  let needsFuel := match r.energy with
    | none => true
    | some e => e < p.setting (·.fuelThreshold)
  if needsFuel then .fuel
  else if r.washDue && p.yc.washOpen then .wash
  else .berth

/-- The choice when a fuel turn is over or fuel is skipped. -/
def Part.fuelOverChoice (p : Part) (r : Rec) : CallKind :=
  if r.washDue && !r.washed && !r.washSkipped && p.yc.washOpen then .wash else .berth

/-- The choice when a failed FUEL or WASH exchange is repeated. -/
def Part.repeatChoice (p : Part) (kind : CallKind) : CallKind :=
  if kind == .wash && !p.yc.washOpen then .berth else kind

/-- The routing rule calls: the attempt count starts again where the kind differs from that of the previous exchange, and
an exchange is requested. It does not act on a record under a shunt (R13). -/
def route (i : Nat) (choice : Rec → CallKind) (p : Part) : Part :=
  match p.record i with
  | none => p
  | some r =>
    if r.shunt then p
    else
      let kind := choice r
      let q := if r.lastCall == some kind then p else modRecord i (fun r => { r with attempts := 0 }) p
      requestExchange i { kind := kind, requester := .rs, excluded := none } q

/-! ### Outcomes (R14, R15, R72) -/

/-- The station display's guidance line shows a served bus its destination (R124). DESIGN CHOICE (log entry 64): it is shown nowhere
where a merge (R5) has replaced the last outcome by none, or by one of a station that this node does not have. -/
def guideAtStation (r : Rec) (shown : Shown) (p : Part) : Part :=
  match r.outcome with
  | some o =>
    match p.station o.station with
    | some st => putStation o.station { st with guidance := some (r.fleet, shown) } p
    | none => p
  | none => p

/-- The block that has the record in hand shows its destination (R72, R92, R96, R124). -/
def guidePlaced (i : Nat) (r : Rec) (shown : Shown) (p : Part) : Part :=
  match r.place with
  | .intake => if p.holds i then endHold r.fleet shown .none p else lateGuidance r.fleet shown p
  | .served => guideAtStation r shown p
  | _ => lateGuidance r.fleet shown p

/-- The block that has the record in hand shows APRON after a failed BERTH exchange (R93, R96, R124). -/
def guideApron (i : Nat) (r : Rec) (p : Part) : Part :=
  match r.place with
  | .intake =>
    if p.holds i then endHold r.fleet .apron .noBerth p else produce (.guidance r.fleet .late .apron .noBerth) p
  | .served => guideAtStation r .apron p
  | _ => p

/-- How an exchange ends: PLACED with its destination, or by a failure (R72). -/
inductive Ending where
  | placed (shown : Shown)
  | failed
  deriving DecidableEq, Repr

/-- A FUEL or WASH exchange failed (R15). -/
def serviceFailed (i : Nat) (kind : CallKind) (r : Rec) (p : Part) : Part :=
  if r.attempts + 1 < 3 then
    route i (fun _ => p.repeatChoice kind) (modRecord i (fun r => { r with attempts := r.attempts + 1 }) p)
  else if kind == .fuel then
    let q := modRecord i (fun r => { r with fuelSkipped := true, attempts := 0 }) p
    route i p.fuelOverChoice (queueReport (.serviceSkipped r.fleet .fuel) q)
  else
    let q := modRecord i (fun r => { r with washSkipped := true, attempts := 0 }) p
    route i (fun _ => .berth) (queueReport (.serviceSkipped r.fleet .wash) q)

/-- The Record Store gets an outcome (R14, R15). -/
def storeOutcome (i : Nat) (kind : CallKind) (ending : Ending) (p : Part) : Part :=
  match p.record i with
  | none => p
  | some r =>
    match ending with
    | .placed shown => modRecord i (fun r => { r with attempts := 0 }) (guidePlaced i r shown p)
    | .failed =>
      match kind with
      | .berth =>
        guideApron i r (modRecord i (fun r =>
          { r with place := .apron, repeatTimer := some (p.setting (·.repeatInterval)) }) p)
      | _ => serviceFailed i kind r p

/-- The alias or node that a destination shows. -/
def Shown.alias? : Shown → Nat
  | .lane a => a
  | .node n => n
  | .apron => 0

/-- The Departure Unit gets a shunt's outcome (R166). -/
def shuntOutcome (i : Nat) (ending : Ending) (p : Part) : Part :=
  let isCurrent (d : Dig) : Bool := match d.current with
    | some c => c.1 == i
    | none => false
  match p.du.digs.find? isCurrent, p.record i with
  | some d, some r =>
    match ending with
    | .placed shown =>
      let q := modDig d.lane (fun d =>
        { d with blockers := d.blockers.filter (fun b => b.1 != i), phase := .leaving, current := none,
                 shunted := some r.fleet }) p
      let q := modRecord i (fun r => { r with shunt := false, attempts := 0 }) q
      queueReport (.shuntPlaced d.slot d.targetFleet r.fleet shown.alias?) (produce (.guidance r.fleet .shunt shown .none) q)
    | .failed =>
      let q := modRecord i (fun r => { r with attempts := r.attempts + 1 }) p
      if r.attempts + 1 < 3 then requestExchange i (shuntCall q d.lane) q else giveUp d .shuntFailed q
  | _, _ => p

/-- An exchange ends: its entry is freed and reused, and its outcome passed to its requester (R64, R72). DESIGN CHOICE (log
entry 40): no report says whether NO_OFFER or LINE_FAIL ended it, since no table of reports names one (R66). -/
def endExchange (e : Exchange) (ending : Ending) (p : Part) : Part :=
  let q := freeExchange e p
  match e.requester with
  | .rs => storeOutcome e.record e.kind ending q
  | .du => shuntOutcome e.record ending q

/-! ### Failed sendings (R66, R69, R75) -/

/-- An exchange's entry is written. -/
def putExchange (e : Exchange) (p : Part) : Part := modExchange e.id (fun _ => e) p

/-- A sending of an exchange's call has failed (R66); one counted while the node is not ACTIVE starts the spacing timer
(R65). A closed exchange is freed (R73). -/
def callFailed (id : Nat) (p : Part) : Part :=
  match p.exchange id with
  | none => p
  | some e =>
    let q := if p.active then p else startSpacing p
    if e.closing then freeExchange e q
    else if e.callFailures + 1 < 3 then
      putExchange { e with state := .pending, callFailures := e.callFailures + 1, wait := q.spacingWait } q
    else endExchange e .failed q

/-- The winner's node number, 0 before it is known. -/
def Exchange.winnerNode (e : Exchange) : Nat :=
  match e.winner with
  | some w => w.node
  | none => 0

/-- A sending of an exchange's TRANSFER has failed (R69). A closed exchange is freed (R73). -/
def transferFailed (id : Nat) (p : Part) : Part :=
  match p.exchange id with
  | none => p
  | some e =>
    if e.closing then freeExchange e p
    else if e.transferFailures + 1 < 3 then
      putExchange { e with transferFailures := e.transferFailures + 1, wait := p.spacingWait } p
    else endExchange e .failed (queueReport (.handoverFailed (p.fleetOf e.record) e.kind e.winnerNode) p)

/-- The destination that a winner gives (R72). -/
def winnerShown (kind : CallKind) (w : Winner) : Shown :=
  match kind with
  | .berth => .lane w.laneAlias
  | _ => .node w.node

/-- An exchange's TRANSFER was delivered (R69, R73). -/
def transferDelivered (id : Nat) (p : Part) : Part :=
  match p.exchange id with
  | none => p
  | some e =>
    if e.gone then freeExchange e p
    else
      let q := if e.closing then freeExchange e p
        else match e.winner with
          | some w => endExchange e (.placed (winnerShown e.kind w)) p
          | none => freeExchange e p
      deleteRecord .outbound e.record q

end Sys2Proof.Machine
end

