-- ==== Sys2Proof/Machine/Review.lean ====
section
/-! DEFINITION. The Departure Unit's review of its digs and awards after a change of a lane (R155, R167 to R170). -/

namespace Sys2Proof.Machine

/-! ### The review of a dig (R167 to R170) -/

/-- The entries ahead of a dig's target, where its entry stands in the dig lane. -/
def Part.aheadOfTarget (p : Part) (d : Dig) : Option (List Entry) :=
  match p.ahead d.target with
  | some (n, es) => if n = d.lane then some es else none
  | none => none

/-- An entry ahead of the target is neither OUTBOUND, AWARDED nor on the blocker list (R169). -/
def Part.strangerAhead (p : Part) (d : Dig) (e : Entry) : Bool :=
  p.counts e && match e.kind with
    | .tracked i => !d.blockers.any fun b => b.1 == i
    | _ => true

/-- The shunted entry still stands in the dig lane (R167). -/
def Part.shuntedStands (p : Part) (d : Dig) : Bool :=
  match p.lane d.lane, d.shunted with
  | some l, some fleet => l.entries.any fun e => e.fleet == fleet && e.kind == .outbound
  | _, _ => false

/-- The head of the blocker list is called, or the phase is CLEAR (R167, R170). -/
def callNext (d : Dig) (p : Part) : Part :=
  match d.blockers with
  | b :: _ => callBlocker d.lane b p
  | [] => modDig d.lane (fun d => { d with phase := .clear, current := none, shunted := none }) p

/-- The next step of a dig, if the lane as it stands calls for one (R167 to R170). A target that another rule has moved out
of the lane ends its dig (log entry 22). -/
def digStep (p : Part) (d : Dig) : Option Part :=
  match p.aheadOfTarget d with
  | none => some (endDig d .targetRead p)
  | some es =>
    if es.any (·.unconfirmed) then some (giveUp d .orderFault p)
    else if es.any (p.strangerAhead d) then some (giveUp d .entryAhead p)
    else if es.isEmpty then some (endDig d .targetFront p)
    else
      match d.phase with
      | .calling => if d.current.isNone then some (callNext d p) else none
      | .leaving => if p.shuntedStands d then none else some (callNext d p)
      | .clear => none

/-- A DIRECT award that stands blocked (R155). -/
def Part.blockedAward (p : Part) (a : Award) : Bool :=
  a.mode == .direct && match p.depth a.record with
    | some d => d != 0
    | none => false

/-- One step of the Departure Unit's review: of the first dig that has one, else of the first blocked award. DESIGN CHOICE (log
entry 58): where one change reaches several digs (R169) and DIRECT awards (R155), the digs come first, in the order they started,
then the awards, in their list's order and not mouth first. -/
def reviewStep (p : Part) : Option Part :=
  match p.du.digs.findSome? (digStep p) with
  | some q => some q
  | none => (p.du.awards.find? p.blockedAward).map fun a => missAward a p

/-- The review, `fuel` bounding its steps: each ends an award, ends a dig or moves a dig's phase on
(log entry 36). -/
def review : Nat → Part → Part
  | 0, p => p
  | fuel + 1, p =>
    match reviewStep p with
    | some q => review fuel q
    | none => p

end Sys2Proof.Machine
end

