-- ==== Sys2Proof/Machine/Offers.lean ====
section
/-! DEFINITION. Answering calls: the berth offer (chapter 7), the service offer (R105, R106) and the bid (chapter 8), their
reservations (R68), and what becomes of a won window (R70, R71, R150 to R152). -/

namespace Sys2Proof.Machine

/-! ### The berth offer (R130 to R133) -/

/-- A lane has a confirmed front (R20). -/
def Lane.confirmedFront (l : Lane) : Bool :=
  match l.entries.head? with
  | some e => !e.unconfirmed
  | none => true

/-- A lane is a candidate for a call (R130). -/
def Part.candidate (p : Part) (c : BusCall) (n : Nat) : Bool :=
  match p.lane n with
  | some l =>
    l.state == .opened && c.excluded != some l.laneAlias && l.confirmedFront
      && c.lengthClass.units ≤ p.freeUnits n && p.placesInUse n < 12
  | none => false

/-- The entry beside which a new bus will stand (R132). -/
def Lane.neighbour (l : Lane) : Option Entry :=
  match l.type with
  | .deadEnd => l.entries.head?
  | .through => l.entries.getLast?

/-- Fuel kinds agree; UNKNOWN agrees with none (R1). -/
def FuelKind.matches (a b : FuelKind) : Bool := a == b && a != .unknown

/-- A neighbour differs from the bus of a call (R132). -/
def Part.differs (p : Part) (c : BusCall) (e : Entry) : Bool :=
  match e.kind with
  | .tracked i =>
    match p.record i with
    | some r => !(r.fuel.matches c.fuel && r.lengthClass == c.lengthClass)
    | none => true
  | _ => true

/-- The mix term (R131). -/
def Part.mixTerm (p : Part) (c : BusCall) (l : Lane) : Nat :=
  match l.neighbour with
  | some e => if p.differs c e then 8192 else 0
  | none => 0

/-- The berth cost of a lane with its free units, clamped at 65535 (R131). -/
def Part.berthCost (p : Part) (c : BusCall) (free : Nat) (l : Lane) : Nat :=
  let leftover := (free - c.lengthClass.units) * 512
  let dead := match l.type with
    | .deadEnd => 256 + (100 - c.energy.getD 0) * 64
    | .through => 0
  min (dead + leftover + p.mixTerm c l + l.weight * 1024) 65535

/-- The berth cost of a lane number. -/
def Part.berthCostAt (p : Part) (c : BusCall) (n : Nat) : Nat :=
  match p.lane n with
  | some l => p.berthCost c (p.freeUnits n) l
  | none => 65535

/-- The lane that the Lane Map names for a call: the candidate of least cost, then of least local number (R133). -/
def Part.nameBerth (p : Part) (c : BusCall) : Option Nat :=
  leastBy (p.berthCostAt c) (p.laneNumbers.filter (p.candidate c))

/-! ### The bid (R145 to R148) -/

/-- The number of lanes in DIG. -/
def Part.lanesInDig (p : Part) : Nat := p.lm.lanes.countP fun l => l.state == .dig

/-- Places in use of the award list: entries, and bids OFFERING (R149). -/
def Part.awardPlaces (p : Part) : Nat :=
  p.du.awards.length + p.xe.reservations.countP fun r => match r.resource with
    | .bid .. => true
    | _ => false

/-- An entry ahead bars a dig: unconfirmed or UNTRACKED (R146). -/
def Entry.barsDig (e : Entry) : Bool := e.unconfirmed || e.kind == .untracked

/-- The entries ahead of a record, none where it has no entry. -/
def Part.entriesAhead (p : Part) (i : Nat) : List Entry :=
  match p.ahead i with
  | some (_, es) => es
  | none => []

/-- A record at depth d may be dug out (R146, R152). -/
def Part.diggable (p : Part) (i d : Nat) : Bool :=
  1 ≤ d && d ≤ 3 && p.lanesInDig < 2 && !(p.entriesAhead i).any Entry.barsDig

/-- The conditions of R146 on the record itself. -/
def Rec.fitsSlot (c : SlotCall) (r : Rec) : Bool :=
  r.place == .parked && !r.stray && !r.doubled && !r.unconfirmed && !r.shunt
    && (match r.energy with
      | some e => decide (c.eMin ≤ e)
      | none => false)
    && r.fuel.matches c.fuel && r.lengthClass == c.lengthClass && (!c.washRequired || r.washed)

/-- A record is eligible for a slot call, its bid's place of the award list set apart (R146). -/
def Part.eligible (p : Part) (c : SlotCall) (i : Nat) : Bool :=
  match p.record i, p.entryOf i with
  | some r, some (n, _) =>
    r.fitsSlot c && (p.exchangeOf i).isNone && p.awardPlaces < 8
      && (match p.lane n with
        | some l => l.state == .opened
        | none => false)
      && (match p.depth i with
        | some d => d == 0 || (c.digAllowed && p.diggable i d)
        | none => false)
  | _, _ => false

/-- The departure cost (R147). -/
def departureCost (depth energy eMin age weight : Nat) : Nat :=
  depth * 4096 + (energy - eMin) * 40 + (1023 - age) + weight * 256

/-- The departure cost of a record. -/
def Part.bidCost (p : Part) (c : SlotCall) (i : Nat) : Nat :=
  match p.record i, p.entryOf i with
  | some r, some (n, _) =>
    let weight := match p.lane n with
      | some l => l.weight
      | none => 0
    departureCost ((p.depth i).getD 0) (r.energy.getD 0) c.eMin r.age weight
  | _, _ => 0

/-- The record that the Departure Unit names: the eligible one of least cost, then of least index (R148). -/
def Part.nameBid (p : Part) (c : SlotCall) : Option Nat :=
  leastBy (p.bidCost c) ((List.range Config.recordSlots).filter (p.eligible c))

/-- A valid slot call's fields (R143). DESIGN CHOICE (log entry 65): a slot number above 4095 is not tested. DESIGN CHOICE (log entry 72):
a call with E_min above 100 is valid, so that it may repost an award (R144), though no bus reaches it (R146). -/
def SlotCall.valid (c : SlotCall) : Bool := c.slot != 0 && c.due ≤ 1439

/-! ### Making an offer (R67, R68) -/

/-- An offer that a block names: its resource, cost, item and what its body carries after the caller and the id. -/
structure Offer where
  resource : Resource
  cost : Nat
  item : Nat
  tail : List Byte
  deriving DecidableEq, Repr

/-- What the block that answers a call's kind names (R67). -/
def Part.named (p : Part) (c : WindowCall) : Option Offer :=
  match c.content with
  | none => none
  | some (.bus b) =>
    match c.kind with
    | .berth => (p.nameBerth b).map fun n =>
        { resource := .berth n b.lengthClass.units, cost := p.berthCostAt b n, item := n, tail := [byte (p.aliasOf n)] }
    | .fuel =>
      if p.namesService .fuel b.fuel then
        some { resource := .place .fuel b.fuel, cost := p.serviceCost b.fuel, item := 0, tail := [] }
      else none
    | .wash =>
      if p.namesService .wash b.fuel then
        some { resource := .place .wash b.fuel, cost := p.serviceCost b.fuel, item := 0, tail := [] }
      else none
    | .slot => none
  | some (.slot s) =>
    if s.valid then
      (p.nameBid s).map fun i =>
        { resource := .bid i (p.fleetOf i), cost := p.bidCost s i, item := i,
          tail := toBytes 2 (p.fleetOf i) ++ toBytes 2 s.slot }
    else none

/-- The Lane Map or the Turn Scheduler refuses an offer's reservation (R22, R105, R134). -/
def Part.refuses (p : Part) : Resource → Bool
  | .berth n units => !p.fits n units
  | .place .. => !(p.queuePlaces < 16)
  | .bid .. => false

/-- The Exchange Engine's own conditions on an offer (R67). A waiting claim answer takes the transmit place as soon as it is
empty (R43, R59), so the place is not free for an offer while one waits. -/
def Part.mayOffer (p : Part) : Bool :=
  p.active && p.recordCount < Config.recordSlots && p.xe.reservations.length < 4 && p.lif.tx.isNone
    && p.lif.claimAnswer.isNone

/-- The OFFER frame of an offer on a call. -/
def offerFrame (node : Nat) (c : WindowCall) (o : Offer) : Frame :=
  { kind := 6, cost := o.cost, node := node, item := o.item, addressee := 0,
    body := [byte c.caller, byte c.callId] ++ o.tail }

/-- An offer takes its reservation and its OFFER goes to the transmit place (R67, R68). -/
def makeOffer (c : WindowCall) (o : Offer) (p : Part) : Part :=
  { p with
    xe := { p.xe with reservations := p.xe.reservations ++
      [{ caller := c.caller, callId := c.callId, kind := c.kind, resource := o.resource, held := false, timer := none }] }
    lif := { p.lif with
      tx := some { key := .offer, frame := offerFrame p.lif.nodeNumber c o, census := false, sending := false,
                   abandoned := false, stale := false, gone := false } } }

/-- An offer on a call is considered (R67). -/
def considerOffer (c : WindowCall) (p : Part) : Part :=
  if p.mayOffer then
    match p.named c with
    | some o => if p.refuses o.resource then p else makeOffer c o p
    | none => p
  else p

/-- A repost withdraws the award that the node holds for the slot, without a notice; what the withdrawal entails for other
awards and digs (R153, R155, R169) is complete before the record is judged afresh (R144). -/
def repost (s : SlotCall) (p : Part) : Part :=
  match p.awardOfSlot s.slot with
  | some a => review 64 (queueReport (.slotReposted s.slot a.fleet) (withdraw a none .targetWithdrawn p))
  | none => p

/-- The Departure Unit tests a slot call's own fields and looks for a repost (R143, R144; log entry 30). -/
def slotHanded (caller : Nat) (s : SlotCall) (p : Part) : Part :=
  if s.valid then repost s p else queueReport (.slotCallInvalid s.slot s.due caller) p

/-- A call is handed to the block that answers its kind, and an offer on it is considered. -/
def callHanded (c : WindowCall) (p : Part) : Part :=
  match c.content with
  | some (.slot s) => considerOffer c (slotHanded c.caller s p)
  | _ => considerOffer c p

/-! ### The award (R150 to R152, R164) -/

/-- A new award takes its place in the order of due minute and slot number (R151). -/
def insertAward (a : Award) : List Award → List Award
  | [] => [a]
  | b :: rest =>
    if a.due < b.due || (a.due == b.due && a.slot < b.slot) then a :: b :: rest else b :: insertAward a rest

/-- The entries ahead that a dig must move, mouth first: neither OUTBOUND nor AWARDED (R164). -/
def Part.blockersAhead (p : Part) (i : Nat) : List (Nat × Nat) :=
  (p.entriesAhead i).filterMap fun e => match e.kind with
    | .tracked j => if p.recordIs j .awarded then none else some (j, e.fleet)
    | _ => none

/-- A dig starts for an award (R164). -/
def startDig (a : Award) (p : Part) : Part :=
  let blockers := p.blockersAhead a.record
  let d : Dig :=
    { lane := a.lane, target := a.record, targetFleet := a.fleet, slot := a.slot, blockers := blockers,
      blockerCount := blockers.length, phase := .clear, current := none, shunted := none,
      timer := some (Config.digPerBlocker * blockers.length) }
  let q := modAward a.slot (fun a => { a with mode := .digging }) p
  let q := modLane a.lane (fun l => { l with state := .dig }) { q with du := { q.du with digs := q.du.digs ++ [d] } }
  let q := queueReport (.digStarted a.slot a.fleet (q.aliasOf a.lane) blockers.length) q
  match blockers with
  | b :: _ => callBlocker a.lane b q
  | [] => q

/-- The lane of a record's entry is OPEN. -/
def Part.laneOpened (p : Part) (n : Nat) : Bool :=
  match p.lane n with
  | some l => l.state == .opened
  | none => false

/-- An award is made, and its mode follows from the depth (R152). DESIGN CHOICE (log entry 45): an award that is withdrawn at
once raises no AWARD_MISSED report. -/
def makeAward (s : SlotCall) (i n : Nat) (p : Part) : Part :=
  let d := (p.depth i).getD 0
  let a : Award :=
    { slot := s.slot, due := s.due, record := i, fleet := p.fleetOf i, lane := n, mode := .direct, timer := none }
  let canDig := p.diggable i d && p.laneOpened n
  let q := modRecord i (fun r => { r with place := .awarded, award := some (s.slot, s.due) }) p
  let q := { q with du := { q.du with awards := insertAward a q.du.awards } }
  let q := queueReport (.award s.slot a.fleet (q.aliasOf n) d) q
  if d = 0 then q
  else if !s.digAllowed then withdraw a (some .missed) .targetWithdrawn q
  else if canDig then startDig a q
  else withdraw a (some .givenUp) .targetWithdrawn q

/-- The alias of the last lane of a bid's record, 0 where it has had none or is gone (R150; log entry 21). -/
def Part.lastAlias (p : Part) (i fleet : Nat) : Nat :=
  match p.record i with
  | some r =>
    match r.lastLane with
    | some n => if r.fleet = fleet then p.aliasOf n else 0
    | none => 0
  | none => 0

/-- A bid that has won is void: MISSED is handed over and AWARD_VOID queued (R150). -/
def voidBid (slot i fleet : Nat) (p : Part) : Part :=
  queueReport (.awardVoid slot fleet) (handNotice .missed fleet slot (p.lastAlias i fleet) p)

/-- A bid has won its window: an award where the record still stands PARKED in a lane under the bid's fleet number, else
MISSED (R150). -/
def bidWon (s : SlotCall) (i fleet : Nat) (p : Part) : Part :=
  match p.entryOf i with
  | some (n, _) => if p.recordIs i .parked && p.fleetOf i == fleet then makeAward s i n p else voidBid s.slot i fleet p
  | none => voidBid s.slot i fleet p

/-! ### The end of a window (R50, R51, R66, R68, R71) -/

/-- The exchange of this node whose window a call is. -/
def Part.windowExchange (p : Part) (c : WindowCall) : Option Exchange :=
  if c.caller = p.lif.nodeNumber then p.xe.exchanges.find? fun e => e.id == c.callId && e.state == .window && !e.closing
  else none

/-- The destination of a local handover (R72). -/
def Part.localShown (p : Part) : Resource → Shown
  | .berth n _ => .lane (p.aliasOf n)
  | _ => .node p.lif.nodeNumber

/-- A local handover (R71): the exchange ends PLACED and its record takes the reservation as its place; a PARKED record's
old entry becomes OUTBOUND (R31, R137). -/
def localHandover (e : Exchange) (r : Reservation) (p : Part) : Part :=
  let shown := p.localShown r.resource
  let q := endExchange e (.placed shown) (releaseReservation r.caller r.callId p)
  takePlace e.record r.resource (makeOutbound e.record q)

/-- A reservation of a caller and an id becomes HELD, its timer running (R68). -/
def Reservation.hold (caller callId timeout : Nat) (r : Reservation) : Reservation :=
  if r.is caller callId then { r with held := true, timer := some timeout } else r

/-- This node's OFFER won: its reservation becomes HELD, or its bid an award (R68). -/
def ownOfferWon (c : WindowCall) (p : Part) : Part :=
  match p.reservation c.caller c.callId with
  | none => p
  | some r =>
    match r.resource, c.content with
    | .bid i fleet, some (.slot s) => bidWon s i fleet (releaseReservation c.caller c.callId p)
    | .bid .., _ => releaseReservation c.caller c.callId p
    | _, _ =>
      let timeout := p.setting (·.reservationTimeout)
      { p with xe := { p.xe with reservations := p.xe.reservations.map (Reservation.hold c.caller c.callId timeout) } }

/-- The window of this node's own call was won by this node (R66, R71, R73). -/
def ownCallWonHere (c : WindowCall) (p : Part) : Part :=
  match p.windowExchange c with
  | some e =>
    match p.reservation c.caller c.callId with
    | some r => localHandover e r p
    | none => endExchange e .failed p
  | none => if c.caller = p.lif.nodeNumber then releaseReservation c.caller c.callId p else p

/-- The window was won by another node; a winning OFFER that does not fit ends the exchange NO_OFFER (R66, R193). -/
def wonElsewhere (c : WindowCall) (node item : Nat) (body : List Byte) (p : Part) : Part :=
  match p.windowExchange c with
  | some e =>
    if offerForm c.kind body then
      putExchange { e with state := .handover, winner := some { node := node, item := item, laneAlias := byteAt body 2 },
                           transferFailures := 0, wait := none } p
    else endExchange e .failed p
  | none => p

/-- The window closes (R50). -/
def shutWindow (p : Part) : Part := { p with lif := { p.lif with window := Window.shut } }

/-- The window's exchange, if it is one of this node's, ends without a placement (R66). -/
def failWindow (c : WindowCall) (p : Part) : Part :=
  match p.windowExchange c with
  | some e => endExchange e .failed p
  | none => p

/-- An OFFER that has not started goes back to the Exchange Engine (R50, R67). -/
def takeBackOffer (p : Part) : Part :=
  match p.lif.tx with
  | some t => if t.key == .offer then { p with lif := { p.lif with tx := none } } else p
  | none => p

/-- The window closes empty or failed: an OFFER that has not started is taken back, OFFERING reservations are released,
the caller's exchange ends (R50, R51, R66, R68). -/
def windowOver (p : Part) : Part :=
  let q := releaseOffering (takeBackOffer (shutWindow p))
  match p.lif.window.call with
  | some c => failWindow c q
  | none => q

/-- The window reopens after a failed OFFER, and an offer is considered afresh; or it closes failed (R51, R67). -/
def windowFailed (p : Part) : Part :=
  match p.lif.window.call with
  | some c =>
    if p.lif.window.reopens < c.limit then
      considerOffer c
        { p with lif := { p.lif with window := { p.lif.window with cond := .pending, reopens := p.lif.window.reopens + 1 } } }
    else windowOver p
  | none => shutWindow p

/-- The window is won by an OFFER of a node (R51). -/
def windowWon (node item : Nat) (body : List Byte) (p : Part) : Part :=
  let q := shutWindow p
  match p.lif.window.call with
  | some c =>
    if node = p.lif.nodeNumber then ownCallWonHere c (ownOfferWon c q)
    else wonElsewhere c node item body q
  | none => q

/-- A delivered call opens a window, PENDING (R50). -/
def openWindow (c : WindowCall) (p : Part) : Part :=
  { p with lif := { p.lif with window := { cond := .pending, call := some c, reopens := 0 } } }

end Sys2Proof.Machine
end

