-- ==== Sys2Proof/Machine/Status.lean ====
section
/-! DEFINITION. The node's status: its parts, packed as R194 lays down (log entry 19). -/

namespace Sys2Proof.Machine

/-- Whole seconds of a timer in ms, 0 where it is stopped. -/
def secondsLeft : Option Nat → Nat
  | some ms => ms / 1000
  | none => 0

/-- Part 0, the Line Interface (R62). -/
def Part.statusLine (p : Part) : List Byte :=
  [byte p.lif.lineState.code, byte p.lif.nodeNumber, byte p.lif.consecutiveFailures, byte p.lif.consecutiveFlaws]
    ++ toBytes 2 p.lif.counters.checkFailures ++ toBytes 2 p.lif.counters.flawsSignalled
    ++ toBytes 2 p.lif.counters.echoFaults ++ toBytes 2 p.lif.counters.ownFailures
    ++ toBytes 2 p.lif.counters.lostContentions ++ toBytes 2 p.lif.counters.numberClashes
    ++ [byte (bitOf p.lif.lineLost)]

/-- Part 1, the Exchange Engine's five counts (R83). -/
def Part.statusEngine (p : Part) : List Byte :=
  [byte p.recordsHeld, byte p.xe.reservations.length, byte (p.xe.exchanges.countP fun e => !e.closing),
   byte p.rs.wantedOrder.length, byte p.xe.questions.length]

/-- Part 2, the Field Port (R188), with the receive places taken. -/
def Part.statusPort (places : Nat) (p : Part) : List Byte :=
  [byte (bitOf p.settings.isSome), Config.unlistedCode (.linkRate (LinkRate.strap p.fp.linkRate)), byte places,
   byte p.fp.outputs.length, byte p.fp.reports.length]
    ++ toBytes 2 p.fp.dropped ++ toBytes 2 p.fp.overflow ++ toBytes 2 p.fp.linkErrors ++ toBytes 2 p.fp.outputDropped

/-- Part 3, the Yard Clock (R182). -/
def Part.statusClock (p : Part) : List Byte :=
  toBytes 3 p.yc.seconds
    ++ [byte (bitOf p.yc.isSet), if p.yc.washOpen then Config.unlistedCode .washOpen else Config.unlistedCode .washClosed,
        byte (bitOf (match p.settings with
          | some c => c.timeSource
          | none => false))]

/-- Part 4, the Intake Unit (R97). -/
def Part.statusIntake (p : Part) : List Byte :=
  (if p.holding then Config.unlistedCode .gateHolding else Config.unlistedCode .gateIdle)
    :: toBytes 2 (match p.iu.intake with
      | some t => t.fleet
      | none => 0)
    ++ toBytes 2 (secondsLeft p.iu.holdTimer)

/-- The priority order in three bits per level, head first (R194). -/
def packOrder (order : List Nat) : Nat := order.foldl (fun a l => a * 8 + l) 0

/-- The held levels, bit k for level k (R194). -/
def packLevels (held : List Nat) : Nat := ((List.range 8).filter held.contains).foldl (fun a k => a + 2 ^ k) 0

/-- Part 5, the Turn Scheduler (R127). -/
def Part.statusTurns (p : Part) : List Byte :=
  match p.ts.kind with
  | none => byte (pointKindCode none) :: List.replicate 16 0
  | some k =>
    [byte (pointKindCode (some k)), byte (pointStateCode p.ts.opened), byte p.queuePlaces, byte p.queueReservations]
      ++ (List.range 8).map (fun level => byte (p.ts.levels.getD level []).length)
      ++ [byte p.ts.retryOrder.length] ++ toBytes 3 (packOrder p.ts.order) ++ [byte (packLevels p.ts.heldLevels)]

/-- A station (R194). -/
def Station.status (st : Station) : List Byte := toBytes 2 (st.state.code * 16384 + st.fleet)

/-- A lane (R141, R194). DEDUCED (log entry 19): the byte of the state and the displayed aspect stands at the state's place. -/
def Part.statusLane (p : Part) (n : Nat) (l : Lane) : List Byte :=
  [byte n, byte l.laneAlias, byte (l.state.code * 4 + l.displayed.code), byte (p.unitsUsed n), byte (p.freeUnits n),
   byte l.entries.length, byte (l.entries.countP (·.unconfirmed)), byte l.allocs.length, byte (p.reservedUnits n).length]

def AwardMode.code : AwardMode → Nat
  | .direct => 0
  | .digging => 1

/-- An award (R161, R194). -/
def Part.statusAward (p : Part) (a : Award) : List Byte :=
  toBytes 2 a.slot ++ toBytes 2 a.due ++ toBytes 2 a.fleet
    ++ [byte (p.aliasOf a.lane), byte (a.mode.code * 2 + bitOf a.timer.isSome)] ++ toBytes 2 (secondsLeft a.timer)

def DigPhase.code : DigPhase → Nat
  | .calling => 0
  | .leaving => 1
  | .clear => 2

/-- The call attempt count that a dig's status carries: the current blocker's, in CALLING (R176). -/
def Part.digAttempts (p : Part) (d : Dig) : Nat :=
  match d.current with
  | some (i, _) => match p.record i with
    | some r => r.attempts
    | none => 0
  | none => 0

/-- The fleet number that a dig's status carries beside its list: the current blocker's or the shunted entry's (R176). -/
def Dig.focus (d : Dig) : Nat :=
  match d.current with
  | some (_, fleet) => fleet
  | none => d.shunted.getD 0

/-- A dig (R176, R194). DESIGN CHOICE (log entry 19): the byte that its phase and its current blocker's call attempt count share
stands at the phase's place. -/
def Part.statusDig (p : Part) (d : Dig) : List Byte :=
  [byte (p.aliasOf d.lane)] ++ toBytes 2 d.targetFleet ++ toBytes 2 d.slot
    ++ [byte (d.phase.code * 16 + p.digAttempts d), byte d.blockers.length]
    ++ (List.range 3).flatMap (fun k => toBytes 2 ((d.blockers[k]?.map (·.2)).getD 0))
    ++ toBytes 2 d.focus ++ toBytes 2 (secondsLeft d.timer)

/-- The bytes of one part and index, where the node holds it (R194). DESIGN CHOICE (log entry 46): awards are numbered in their
list's order and digs in the order they started, from 1, those behind one that ends moving up. -/
def Part.statusPart (p : Part) (part index : Nat) : Option (List Byte) :=
  match part, index with
  | 0, 0 => some p.statusLine
  | 1, 0 => some p.statusEngine
  | 2, 0 => some (p.statusPort p.fp.replies.length)
  | 3, 0 => some p.statusClock
  | 4, 0 => some p.statusIntake
  | 5, 0 => some p.statusTurns
  | 6, k => (p.station k).map Station.status
  | 7, n => (p.lane n).map (p.statusLane n)
  | 8, k => if k = 0 then none else (p.du.awards[k - 1]?).map p.statusAward
  | 9, k => if k = 0 then none else (p.du.digs[k - 1]?).map p.statusDig
  | _, _ => none

/-- The body of a STATUS frame (R83, R194). -/
def Part.statusFrame (p : Part) (part index : Nat) : List Byte :=
  [byte part, byte index] ++ (p.statusPart part index).getD []

/-- The body of the field link's STATUS message (R188, R194). Its own message still takes its receive place. -/
def Part.statusMessage (p : Part) : List Byte :=
  p.statusLine ++ p.statusEngine ++ p.statusPort (p.fp.replies.length + 1) ++ p.statusClock ++ p.statusIntake
    ++ p.statusTurns
    ++ byte p.ts.stations.length :: p.ts.stations.flatMap Station.status
    ++ byte p.lm.lanes.length :: p.laneNumbers.flatMap (fun n => ((p.lane n).map (p.statusLane n)).getD [])
    ++ byte p.du.awards.length :: p.du.awards.flatMap p.statusAward
    ++ byte p.du.digs.length :: p.du.digs.flatMap p.statusDig

end Sys2Proof.Machine
end

