-- ==== Sys2Proof/Machine/Settle.lean ====
section
/-! DEFINITION. What follows a command's changes: the Departure Unit's review (Review.lean), the aspects (R36, R37), deferred
answers (R80), and the handing of the next ready frame to the transmit place (R65). -/

namespace Sys2Proof.Machine

/-! ### Aspects (R36, R37) -/

/-- The computed aspect of a lane (R36). DESIGN CHOICE (log entry 38): a shunt exchange that R73 has closed shows STOP while its
TRANSFER is still in the transmit place. -/
def Part.computedAspect (p : Part) (l : Lane) : Aspect :=
  if l.state == .held then .stop
  else
    match l.entries.head? with
    | none => .stop
    | some e =>
      match e.kind with
      | .outbound => .shunt
      | .untracked => .stop
      | .tracked i =>
        match p.record i with
        | none => .stop
        | some r =>
          if r.place == .awarded then .go
          else if r.shunt && p.xe.exchanges.any fun x => x.record == i && x.state == .handover && !x.closing then .shunt
          else .stop

/-- The aspect that a lane displays (R37). -/
def Part.shownAspect (p : Part) (l : Lane) (computed : Aspect) : Aspect :=
  if p.lif.lineState == .lost then
    match l.fallback with
    | .hold => l.displayed
    | .stop => .stop
  else computed

/-- A lane's aspects are taken afresh; a change of the displayed one is sent (R36, R37). -/
def refreshLane (p : Part) (n : Nat) : Part :=
  match p.lane n with
  | none => p
  | some l =>
    let c := p.computedAspect l
    let d := p.shownAspect l c
    let q := modLane n (fun l => { l with computed := c, displayed := d }) p
    if d == l.displayed then q else produce (.laneAspect n l.laneAlias d) q

/-- Every lane's aspects are taken afresh (R36, R37). DESIGN CHOICE (log entry 57): where several lanes change at one event, as on
entry to LOST, their messages go in local-number order. -/
def refreshAspects (p : Part) : Part := p.laneNumbers.foldl refreshLane p

/-- An award's record is the front of a lane that displays GO (R154). DESIGN CHOICE (log entry 56): the displayed aspect alone
decides, of a HELD lane too that goes on displaying GO in LOST by its fallback HOLD, where R35 says that no waiting limit starts. -/
def Part.atGo (p : Part) (a : Award) : Bool :=
  match p.entryOf a.record with
  | some (n, 0) =>
    match p.lane n with
    | some l => l.displayed == .go
    | none => false
  | _ => false

/-- A WAITING award limit starts where its record is at GO (R154). -/
def Part.startLimit (p : Part) (a : Award) : Award :=
  if a.timer.isNone && p.atGo a then { a with timer := some (p.setting (·.awardLimit)) } else a

/-- The award limits that may start do (R154). -/
def startLimits (p : Part) : Part := { p with du := { p.du with awards := p.du.awards.map p.startLimit } }

/-! ### Answers (R77, R78, R80) -/

/-- The kind of an answer to a question without the gate flag (R77). -/
def PlaceState.answer : PlaceState → AnswerKind
  | .queued | .granted | .inService | .parked | .awarded => .held
  | _ => .release

/-- The answer to a question is decided from its record's state, an award being withdrawn for a gate-flagged one (R77,
R78). -/
def decideAnswer (i asker : Nat) (gate : Bool) (p : Part) : Part :=
  match p.record i with
  | none => p
  | some r =>
    let a : Answer :=
      { record := i, fleet := r.fleet, asker := asker, kind := if gate then .release else r.place.answer, gate := gate,
        deferred := false, failures := 0, wait := none }
    enterAnswer a (if gate then unreadExit i p else p)

/-- A question about a held record: its answer is decided, or deferred while its exchange is in HANDOVER (R77, R78, R80). -/
def answerQuestion (i asker : Nat) (gate : Bool) (p : Part) : Part :=
  if p.inHandover i then
    enterAnswer { record := i, fleet := p.fleetOf i, asker := asker, kind := .release, gate := gate, deferred := true,
                  failures := 0, wait := none } p
  else decideAnswer i asker gate p

/-- A deferred answer is decided in its place in the list (R80). -/
def resolveAnswer (p : Part) (a : Answer) : Part :=
  let q := if a.gate then unreadExit a.record p else p
  let kind := match p.record a.record with
    | some r => if a.gate then .release else r.place.answer
    | none => .release
  modAnswer a.record (fun x => { x with kind := kind, deferred := false }) q

/-- Every deferred answer whose record is no longer in HANDOVER is decided (R80). -/
def resolveDeferred (p : Part) : Part :=
  (p.xe.answers.filter fun a => a.deferred && !p.inHandover a.record).foldl resolveAnswer p

/-! ### Ready frames (R65) -/

/-- The keys of the exchanges' ready frames. -/
def Part.readyExchange (p : Part) (e : Exchange) : Option FrameKey :=
  if e.closing || e.wait.isSome then none
  else
    match e.state with
    | .pending => if p.xe.spacing.isNone then some (.call e.id) else none
    | .handover => if p.txKey == some (.transfer e.id) then none else some (.transfer e.id)
    | _ => none

/-- A frame of this key, not a replaced one nor one of a deleted record, is in the transmit place. -/
def Part.inTx (p : Part) (k : FrameKey) : Bool :=
  match p.lif.tx with
  | some t => t.key == k && !t.stale && !t.gone
  | none => false

/-- The record behind a question's frame is census-flagged (R65). -/
def Part.censusKey (p : Part) : FrameKey → Bool
  | .question i => match p.record i with
    | some r => r.census
    | none => false
  | _ => false

/-- The key of a question's ready frame. -/
def Part.readyQuestion (p : Part) (q : Question) : Option FrameKey :=
  if q.state == .waiting && q.wait.isNone && !(p.censusKey (.question q.record) && p.xe.spacing.isSome)
      && !p.inTx (.question q.record) then
    some (.question q.record)
  else none

/-- The key of an answer's ready frame. -/
def Part.readyAnswer (p : Part) (a : Answer) : Option FrameKey :=
  if !a.deferred && a.wait.isNone && !p.inTx (.answer a.record) then some (.answer a.record) else none

/-- The frames that are ready, those of one list in its order (R65). -/
def Part.readyNow (p : Part) : List FrameKey :=
  (if p.xe.timeMark then [.timeMark] else [])
    ++ p.xe.exchanges.filterMap p.readyExchange
    ++ p.xe.questions.filterMap p.readyQuestion
    ++ p.xe.answers.filterMap p.readyAnswer
    ++ (if !p.xe.notices.isEmpty && p.xe.noticeWait.isNone && !p.inTx .notice then [.notice] else [])
    ++ (if !p.xe.statusList.isEmpty && !p.inTx .status then [.status] else [])

/-- The order in which frames became ready is kept up: those no longer ready leave it, new ones join its tail (R65; log
entry 11). Outside ACTIVE none is ready; on entry to ACTIVE all that wait become ready together (R75). -/
def refreshReady (p : Part) : Part :=
  let now := if p.active then p.readyNow else []
  let kept := p.xe.ready.filter now.contains
  { p with xe := { p.xe with ready := kept ++ now.filter fun k => !kept.contains k } }

/-- The kind code of a key's frame (R41). -/
def Part.keyKind (p : Part) : FrameKey → Nat
  | .timeMark => 0
  | .call id => match p.exchange id with
    | some e => e.kind.frame.code
    | none => 15
  | .question _ => 5
  | .offer => 6
  | .transfer _ => 7
  | .answer i => match p.answerOf i with
    | some a => if a.kind == .release then 8 else 9
    | none => 15
  | .notice => 10
  | .status => 12
  | .claim | .claimAnswer => 13

/-- A frame of this node that is no OFFER: cost 0, item 127 (R41). -/
def Part.frame (p : Part) (kind addressee : Nat) (body : List Byte) : Frame :=
  { kind := kind, cost := 0, node := p.lif.nodeNumber, item := 127, addressee := addressee, body := body }

/-- A NODE CLAIM for a number (R57, R59). -/
def Part.claimFrame (p : Part) (number : Nat) (inUse : Bool) : Frame :=
  { kind := 13, cost := 0, node := number, item := 127, addressee := 0,
    body := toBytes 3 p.identity.toNat ++ [byte (bitOf inUse)] }

/-- The frame of a key, its contents taken from the state as it stands (R65, section 12.3). -/
def Part.frameOf (p : Part) : FrameKey → Option Frame
  | .timeMark => some (p.frame 0 0 (toBytes 3 p.yc.seconds))
  | .call id => (p.exchange id).bind fun e => (p.record e.record).map fun r =>
      p.frame e.kind.frame.code 0
        (encodeBusCall id (p.setting (·.offerRetryLimit)) r (e.requester == .du) e.excluded)
  | .question i => (p.questionOf i).map fun q =>
      p.frame 5 0 (toBytes 2 q.fleet ++ [byte (bitOf q.gate), byte (p.setting (·.reservationTimeout))])
  | .transfer id => (p.exchange id).bind fun e => (p.record e.record).map fun r =>
      p.frame 7 e.winnerNode (byte id :: r.image.encode)
  | .answer i => (p.answerOf i).bind fun a => (p.record i).map fun r =>
      match a.kind with
      | .release => p.frame 8 a.asker r.image.encode
      | .held => p.frame 9 a.asker (toBytes 2 a.fleet)
  | .notice => p.xe.notices.head?.map fun q => p.frame 10 0 q.notice.bytes
  | .status => p.xe.statusList.head?.map fun q => p.frame 12 q.node (p.statusFrame q.part q.index)
  | .claimAnswer => some (p.claimFrame p.lif.nodeNumber true)
  | .offer | .claim => none

/-- A frame takes the transmit place. -/
def placeFrame (k : FrameKey) (f : Frame) (p : Part) : Part :=
  { p with lif := { p.lif with
    tx := some { key := k, frame := f, census := p.censusKey k, sending := false, abandoned := false, stale := false,
                 gone := false } } }

/-- What handing a frame over changes in what it came from: a call's exchange becomes CALLED, the time mark place is
emptied (R66, R84; log entry 31). -/
def markHanded (k : FrameKey) (p : Part) : Part :=
  match k with
  | .call id => modExchange id (fun e => { e with state := .called }) p
  | .timeMark => { p with xe := { p.xe with timeMark := false } }
  | _ => p

/-- The frame that is handed over next: a waiting claim answer (R43), else the ready frame of lowest kind code, of those the
one that became ready first (R65; log entry 11). -/
def Part.nextKey (p : Part) : Option FrameKey :=
  if p.lif.claimAnswer.isSome then some .claimAnswer else leastBy p.keyKind p.xe.ready

/-- The transmit place, if empty in an ACTIVE node, takes the next frame (R43, R65). -/
def pump (p : Part) : Part :=
  let q := refreshReady p
  if q.active && q.lif.tx.isNone then
    match q.nextKey with
    | some k =>
      match q.frameOf k with
      | some f => unready k (markHanded k (placeFrame k f q))
      | none => q
    | none => q
  else q

/-- What follows a command's changes (log entry 10). -/
def settle (p : Part) : Part :=
  pump (startLimits (refreshAspects (review 64 (resolveDeferred p))))

/-- What follows a lane's change between OPEN and HELD: no list, award or dig changes. -/
def settleAspects (p : Part) : Part := startLimits (refreshAspects p)

end Sys2Proof.Machine
end

