-- ==== Sys2Proof/Machine/Field.lean ====
section
/-! DEFINITION. How a command acts on the machine's state, and how the Field Port answers a field message (R184, R185). -/

namespace Sys2Proof.Machine

/-- A command changes the part and leaves the queue. -/
def State.perform (f : Part → Part) (s : State) : Host.Outcome State Fault Refusal := .next { s with toPart := f s.toPart }

/-- What a block decides on a field message (R185): refused with a reason, or accepted with what the reply carries besides
and the part as the message leaves it. -/
inductive Decision where
  | refused (reason : Reason)
  | accepted (payload : Payload) (part : Part)

/-- A reply is formed; its message keeps its receive place until the reply is handed over (R184, R186). -/
def addReply (kind : Nat) (refused : Option Reason) (payload : Payload) (p : Part) : Part :=
  { p with fp := { p.fp with replies := p.fp.replies ++ [{ kind := kind, refused := refused, payload := payload }] } }

/-- Both receive places are taken (R184). -/
def Part.receiveFull (p : Part) : Bool := 2 ≤ p.fp.replies.length

/-- A message is lost for want of a receive place (R184). -/
def overflow (p : Part) : Part :=
  let n := bump p.fp.overflow
  queueReport (.inputOverflow n) { p with fp := { p.fp with overflow := n } }

/-- The reply to a decision, a refused message changing nothing else (R185). DESIGN CHOICE (log entry 53): a refused NEXT is
answered without R110's contents. -/
def answerMessage (kind : Nat) (p : Part) : Decision → Part
  | .refused r => addReply kind (some r) .none p
  | .accepted payload q => addReply kind none payload q

/-- A well-formed field message of a kind is processed and answered, or lost where no receive place is free (R184, R185;
log entry 3). -/
def fieldMessage (kind : Nat) (decide : Part → Decision) (p : Part) : Part :=
  if p.receiveFull then overflow p else answerMessage kind p (decide p)

/-- A malformed message raises the link error count and is answered REFUSED, RANGE (R183, R185). -/
def malformed (kind : Nat) (p : Part) : Part :=
  if p.receiveFull then overflow p
  else addReply kind (some .range) .none { p with fp := { p.fp with linkErrors := bump p.fp.linkErrors } }

/-- The tag of a field message: its codes read and its values clamped, where the codes are codes and the fleet number is one
(R185, R195; log entry 32). -/
def readRawTag (t : RawTag) : Option Tag :=
  match readFuel t.fuel, readClass t.lengthClass with
  | some fuel, some cls =>
    if fleetOk t.fleet && t.washDue ≤ 1 then
      some { fleet := t.fleet, fuel := fuel, lengthClass := cls, serviceClass := min t.serviceClass 7,
             energy := readEnergy t.energy, washDue := t.washDue == 1 }
    else none
  | _, _ => none

end Sys2Proof.Machine
end

