-- ==== Sys2Proof/Machine/Clock.lean ====
section
/-! DEFINITION. The Yard Clock (chapter 10): the wash window, time marks, minute ticks, and the running of the time base. -/

namespace Sys2Proof.Machine

/-- The wash window state that an evaluation finds (R181). -/
def Part.washVerdict (p : Part) : Bool :=
  if !p.yc.isSet then true
  else
    match p.settings with
    | none => true
    | some c =>
      let minute := p.yc.seconds / 60
      if c.washOpen < c.washCutOff then c.washOpen ≤ minute && minute < c.washCutOff
      else if c.washCutOff < c.washOpen then c.washOpen ≤ minute || minute < c.washCutOff
      else false

/-- The wash window is evaluated; a change queues a WASH_WINDOW report (R181). -/
def evaluateWash (p : Part) : Part :=
  let verdict := p.washVerdict
  if verdict == p.yc.washOpen then p
  else queueReport (.washWindow verdict p.yc.seconds) { p with yc := { p.yc with washOpen := verdict } }

/-- The difference of two times of day (R179). -/
def dayDifference (m s : Nat) : Nat :=
  let d := if m ≤ s then s - m else m - s
  min d (86400 - d)

/-- A mark's value is adopted: steps 1 to 3 of R179. -/
def adoptMark (m : Nat) (p : Part) : Part :=
  let clock := { p with yc := { p.yc with seconds := m, partMs := 0, isSet := true } }
  let report : Report := if p.yc.isSet then .clockStep p.yc.seconds m else .clockSet m
  evaluateWash (queueReport report clock)

/-- A received TIME MARK of value m from a sender is taken (R179). -/
def takeMark (m sender : Nat) (p : Part) : Part :=
  if 86399 < m then queueReport (.timeMarkInvalid m sender) p
  else if !p.yc.isSet || 2 ≤ dayDifference m p.yc.seconds then adoptMark m p
  else p

/-- A PARKED or AWARDED record is a minute older, up to 1023 (R10). -/
def Rec.minuteOlder (r : Rec) : Rec :=
  if r.place == .parked || r.place == .awarded then { r with age := min (r.age + 1) 1023 } else r

/-- The tick reaches RS: standing ages rise (R10). -/
def ageRecords (p : Part) : Part :=
  { p with rs := { p.rs with store := p.rs.store.map (Option.map Rec.minuteOlder) } }

/-- A time source that is ACTIVE hands over a TIME MARK (R180); a newer mark replaces a waiting one (R84). -/
def handTimeMark (p : Part) : Part :=
  match p.settings with
  | some c => if c.timeSource && p.active then { p with xe := { p.xe with timeMark := true } } else p
  | none => p

/-- The clock passes to the next minute boundary (R178; log entry 4). -/
def passBoundary (p : Part) : Part :=
  { p with yc := { p.yc with seconds := (p.yc.seconds / 60 * 60 + 60) % 86400, partMs := 0 } }

/-- A minute tick of a set clock, in R178's order. -/
def minuteTick (p : Part) : Part := handTimeMark (evaluateWash (ageRecords (passBoundary p)))

/-- The next second of a set clock is a minute boundary (R178). -/
def Part.tickNext (p : Part) : Bool := p.yc.isSet && p.yc.partMs == 999 && p.yc.seconds % 60 == 59

/-- One millisecond of the clock, no minute boundary of a set clock (R177). -/
def advanceClock (p : Part) : Part :=
  if p.yc.partMs < 999 then { p with yc := { p.yc with partMs := p.yc.partMs + 1 } }
  else { p with yc := { p.yc with seconds := (p.yc.seconds + 1) % 86400, partMs := 0 } }

/-- One millisecond of a timer. -/
def tickTimer (t : Option Nat) : Option Nat := t.map (· - 1)

/-- How many bits a millisecond has (R39); with no bit rate taken the line is not read. -/
def LineInterface.msBits (l : LineInterface) : Nat :=
  match l.bitRate with
  | none => 0
  | some .kbit125 => 125
  | some .kbit250 => 250

/-- Some bits in a row read alike are counted (R39). -/
def LineInterface.countRun (recessive : Bool) (n : Nat) (l : LineInterface) : LineInterface :=
  if n = 0 then l
  else if recessive then { l with quiet := l.quiet + n, stuck := 0, gap := l.gap + n }
  else { l with quiet := 0, stuck := l.stuck + n, gap := 0 }

/-- What an idle line carries, of which the spec only says that it is recessive while no station drives it (R39). DESIGN CHOICE
(log entry 8): recessive bits, but that a lost line is held dominant until a recessive bit has been read. -/
def LineInterface.idleBit (l : LineInterface) : Bool := !(l.lineState == .lost && l.quiet == 0)

/-- The bits of a passing millisecond are counted (R39): none in OFFLINE, where the line is not read, and none while a frame is
on the line, whose bits come with its command (log entry 8). -/
def LineInterface.passBits (l : LineInterface) : LineInterface :=
  if l.lineState == .offline || !l.rx.isEmpty then l else l.countRun l.idleBit l.msBits

/-- One millisecond of every timer of the part (section 1.6: the part's own time base), those counted in bits included. -/
def tickTimers (p : Part) : Part :=
  { p with
    rs := { p.rs with store := p.rs.store.map (Option.map fun r =>
      { r with placeTimer := tickTimer r.placeTimer, repeatTimer := tickTimer r.repeatTimer }) }
    lif := { p.lif.passBits with
      standDown := tickTimer p.lif.standDown
      claim := { p.lif.claim with timer := tickTimer p.lif.claim.timer } }
    xe := { p.xe with
      exchanges := p.xe.exchanges.map fun e => { e with wait := tickTimer e.wait }
      reservations := p.xe.reservations.map fun r => { r with timer := tickTimer r.timer }
      questions := p.xe.questions.map fun q => { q with wait := tickTimer q.wait, answerTimer := tickTimer q.answerTimer }
      answers := p.xe.answers.map fun a => { a with wait := tickTimer a.wait }
      memory := p.xe.memory.map fun m => { m with expiry := tickTimer m.expiry }
      noticeWait := tickTimer p.xe.noticeWait
      spacing := tickTimer p.xe.spacing }
    iu := { p.iu with holdTimer := tickTimer p.iu.holdTimer }
    ts := { p.ts with stations := p.ts.stations.map fun st => { st with timer := tickTimer st.timer } }
    du := { p.du with
      awards := p.du.awards.map fun a => { a with timer := tickTimer a.timer }
      digs := p.du.digs.map fun d => { d with timer := tickTimer d.timer } } }

end Sys2Proof.Machine
end

