-- ==== Sys2Proof/Machine/Line.lean ====
section
/-! DEFINITION. The Line Interface (chapter 3) and what the Exchange Engine does on its reports: line states, the claim, the
node's own frames and their verdicts, and the reception of a frame. A frame heard is one command (log entry 7); the quiet and
stuck timers count every bit of it, and a passing millisecond counts the bits between two commands (log entry 8). -/

namespace Sys2Proof.Machine

/-! ### Small changes of the Line Interface -/

/-- The Line Interface is changed. -/
def modLif (f : LineInterface → LineInterface) (p : Part) : Part := { p with lif := f p.lif }

/-- The fault counters are changed (R61). -/
def modCounters (f : Counters → Counters) : Part → Part := modLif fun l => { l with counters := f l.counters }

/-- The transmit place is emptied and nothing is driven. -/
def clearTx : Part → Part := modLif fun l => { l with tx := none, lineBits := [] }

/-- One bit is counted as read: a recessive bit restarts the stuck timer, a dominant one the quiet timer and the gap (R39, R43). -/
def LineInterface.countBit (l : LineInterface) (recessive : Bool) : LineInterface :=
  if recessive then { l with quiet := l.quiet + 1, stuck := 0, gap := l.gap + 1 }
  else { l with quiet := 0, stuck := l.stuck + 1, gap := 0 }

/-- Bits are read from the line, whoever drives them (R39). -/
def readBits (bits : List Bool) : Part → Part := modLif fun l => bits.foldl LineInterface.countBit l

/-- The gap is counted from the next bit on (R40). -/
def restartGap : Part → Part := modLif fun l => { l with gap := 0 }

/-- Recessive bits are read until the gap has n of them: a start, or a window's first bit, comes only after them (R43, R50; log
entry 8). -/
def readGap (n : Nat) (p : Part) : Part := readBits (List.replicate (n - p.lif.gap) true) p

/-- A frame has ended: its bits, its slots, each dominant where this node or another station drives it, and its end have
been read (R39, R40, R46, R47), the gap being counted from the end on, and no frame is on the line. `ack` and `flaw` are what the
other stations drive. -/
def frameEnded (bits : List Bool) (ack flaw : Bool) (endBits : Byte) (droveAck droveFlaw : Bool) (p : Part) : Part :=
  modLif (fun l => { l with droveAck := droveAck, droveFlaw := droveFlaw, rx := [] })
    (readBits (endField endBits) (restartGap (readBits (bits ++ slotBits (ack || droveAck) (flaw || droveFlaw)) p)))

/-- The stuck timer as it was before the frame on the line began, where an event has counted bits of it: its command counts
the frame from its start bit on, so that each bit is counted once (R39). A gap of recessive bits came before it (R43). -/
def uncount : Part → Part := modLif fun l => if l.rx.isEmpty then l else { l with stuck := 0 }

/-- A received frame of a kind has ended. -/
def heardEnded (kind : Nat) (f : RxFrame) (droveAck droveFlaw : Bool) (p : Part) : Part :=
  frameEnded (rxBits kind f) f.ack f.flaw f.endBits droveAck droveFlaw (uncount p)

/-- A frame whose check failed has ended. -/
def flawedEnded (f : FlawedFrame) (droveFlaw : Bool) (p : Part) : Part :=
  frameEnded f.bits f.ack f.flaw f.endBits false droveFlaw (uncount p)

/-- Both consecutive counts become 0 (R48, R49). -/
def resetCounts : Part → Part := modLif fun l => { l with consecutiveFailures := 0, consecutiveFlaws := 0 }

/-- A line state is entered. -/
def enterState (st : LineState) : Part → Part := modLif fun l => { l with lineState := st }

/-! ### Entering line states (R53 to R55, R74, R75) -/

/-- The node enters ACTIVE (R53). -/
def enterActive (p : Part) : Part :=
  queueReport (.lineActive p.lif.nodeNumber p.lif.claimed) (resetCounts (enterState .active p))

/-- The node enters JOINING, where the quiet timer is counted from the entry and the window is CLOSED (R50, R53). -/
def enterJoining : Part → Part :=
  modLif fun l => { l with lineState := .joining, quiet := 0, window := Window.shut, standDown := none }

/-- The head of the status list is freed (R83). -/
def dropQuerier (p : Part) : Part := { p with xe := { p.xe with statusList := p.xe.statusList.drop 1 } }

/-- A frame is returned unsent (R74): a call or a TRANSFER counts as a failed sending, a STATUS is dropped, the others
wait uncounted or, as a TIME MARK or an OFFER, have gone. -/
def returned (k : FrameKey) (p : Part) : Part :=
  match k with
  | .call id => callFailed id p
  | .transfer id => transferFailed id p
  | .status => dropQuerier p
  | _ => p

/-- The transmit place is emptied and its frame returned unsent. -/
def returnUnsent (p : Part) : Part :=
  match p.lif.tx with
  | some t => returned t.key (clearTx p)
  | none => p

/-- An exchange in WINDOW ends LINE_FAIL (R74). -/
def failIfWindow (p : Part) (id : Nat) : Part :=
  match p.exchange id with
  | some e => if e.state == .window then endExchange e .failed p else p
  | none => p

/-- A PENDING or HANDOVER exchange starts its stopped wait timer when the node leaves ACTIVE (R75). -/
def Exchange.startWait (wait : Option Nat) (e : Exchange) : Exchange :=
  if (e.state == .pending || e.state == .handover) && e.wait.isNone then { e with wait := wait } else e

/-- Every PENDING or HANDOVER exchange has its wait timer running (R75). -/
def startWaits (p : Part) : Part :=
  let wait := p.spacingWait
  { p with xe := { p.xe with exchanges := p.xe.exchanges.map (Exchange.startWait wait) } }

/-- The Exchange Engine is told that the node has entered MUTE or LOST (R74, R75). -/
def engineStops (p : Part) : Part :=
  startWaits (releaseOffering ([0, 1, 2, 3].foldl failIfWindow (returnUnsent p)))

/-- The node enters MUTE (R54). -/
def enterMute (flaws : Bool) (p : Part) : Part :=
  let q := modLif (fun l =>
    { l with lineState := .mute, consecutiveFailures := 0, consecutiveFlaws := 0, window := Window.shut,
             standDown := some Config.standDown, claimAnswer := none }) p
  queueReport (.lineMute flaws) (engineStops q)

/-- The node enters LOST, and drops the frame it was receiving (R55). -/
def enterLost (p : Part) : Part :=
  let q := modLif (fun l =>
    { l with lineState := .lost, quiet := 0, stuck := 256, gap := 0, consecutiveFailures := 0, consecutiveFlaws := 0,
             window := Window.shut, standDown := none, claim := Claim.empty, claimAnswer := none, lineLost := true, rx := [] }) p
  queueReport .lineLost (engineStops q)

/-! ### The claim (R56 to R58) -/

/-- A claim state that listens (R57). -/
def Claim.listening : Claim := { Claim.empty with timer := some Config.claimPeriod }

/-- The lowest number in neither set (R57). -/
def Claim.choice (c : Claim) : Option Nat :=
  ((List.range 31).map (· + 1)).find? fun n => !c.heard.contains n && !c.tried.contains n

/-- A new round of listening after NO_NUMBER (R57, R58). -/
def claimAnew (p : Part) : Part := queueReport .noNumber (modLif (fun l => { l with claim := Claim.listening }) p)

/-- A number is chosen and its NODE CLAIM placed, or none is free (R57). -/
def chooseNumber (p : Part) : Part :=
  match p.lif.claim.choice with
  | some n =>
    placeFrame .claim (p.claimFrame n false) (modLif (fun l => { l with claim := { l.claim with number := some n, timer := none } }) p)
  | none => claimAnew p

/-- The claim in progress is given up (R58); `tried` says whether its number joins the tried set. -/
def giveUpClaim (tried : Bool) (p : Part) : Part :=
  match p.lif.claim.number with
  | none => p
  | some n =>
    let q := clearTx p
    let failed := q.lif.claim.failed + 1
    let next := fun (c : Claim) =>
      { c with tried := if tried then c.tried ++ [n] else c.tried, number := none, failed := failed, timer := none }
    let q := modLif (fun l => { l with claim := next l.claim }) q
    if failed < 8 then chooseNumber q else claimAnew q

/-- A node number enters the heard set (R56). -/
def hear (n : Nat) : Part → Part :=
  modLif fun l =>
    if 1 ≤ n && n ≤ 31 && !l.claim.heard.contains n then { l with claim := { l.claim with heard := l.claim.heard ++ [n] } } else l

/-- Received frames bear on a claim: on its number heard, it is given up (R58). -/
def claimHears (n : Nat) (p : Part) : Part :=
  if p.lif.claim.number == some n then giveUpClaim true p else p

/-! ### Contention (R44) -/

/-- The frame in the transmit place, being sent and not abandoned. -/
def Part.contending (p : Part) : Option TxPlace :=
  match p.lif.tx with
  | some t => if t.sending && !t.abandoned then some t else none
  | none => none

/-- The frame being sent loses contention: an OFFER goes back and its reservation is released, another frame waits in its
place (R44, R68). -/
def loseContention (p : Part) : Part :=
  match p.contending with
  | none => p
  | some t =>
    let q := modCounters (fun c => { c with lostContentions := bump c.lostContentions }) p
    if t.key == .offer then releaseOffering (clearTx q)
    else modLif (fun l => { l with tx := some { t with sending := false }, lineBits := [] }) q

/-! ### Verdicts on the node's own frames (R48, R66, R69, R76, R79, R83, R84) -/

/-- The call that a frame opens a window for; an offer may be made only on one addressed to all that fits. -/
def windowCallOf (kind : CallFrameKind) (caller addressee : Nat) (body : List Byte) : WindowCall :=
  { kind := kind, caller := caller, callId := byteAt body 0, limit := callLimit body,
    content := if addressee = 0 then decodeCall kind body else none }

/-- A delivered call, own or received, ends an earlier reservation of its caller and id, opens its window and is considered
(R50, R67). -/
def callTaken (c : WindowCall) (p : Part) : Part :=
  callHanded c (openWindow c (releaseReservation c.caller c.callId p))

/-- An own call is delivered: its exchange becomes WINDOW, or is freed where R73 has closed it, and its window opens (R66,
R73). -/
def callDelivered (id : Nat) (f : Frame) (p : Part) : Part :=
  match p.exchange id with
  | none => p
  | some e =>
    let q := if e.closing then freeExchange e p else putExchange { e with state := .window } p
    callTaken (windowCallOf e.kind.frame p.lif.nodeNumber 0 f.body) q

/-- The verdict on a WHEREABOUTS (R76); that of a census-flagged record starts the spacing timer (R65). -/
def questionVerdict (i : Nat) (delivered census stale : Bool) (p : Part) : Part :=
  let p := if census then startSpacing p else p
  if stale then p
  else
    match p.questionOf i with
    | none => p
    | some q =>
      if delivered then
        modQuestion i (fun q => { q with state := .asked, answerTimer := some (3 * p.setting (·.reservationTimeout)) })
          (modRecord i (fun r => { r with census := false }) p)
      else if q.failures + 1 < 3 then
        modQuestion i (fun q => { q with failures := q.failures + 1, wait := p.spacingWait }) p
      else adopt i (modQuestion i (fun q => { q with failures := q.failures + 1 }) p)

/-- The verdict on an answer (R79). -/
def answerVerdict (i : Nat) (t : TxPlace) (delivered : Bool) (p : Part) : Part :=
  if t.gone then p
  else if delivered && t.frame.kind = 8 then deleteRecord .removed i p
  else if t.stale then p
  else if delivered then freeAnswer i p
  else
    match p.answerOf i with
    | none => p
    | some a =>
      if a.failures + 1 < 3 then modAnswer i (fun a => { a with failures := a.failures + 1, wait := p.spacingWait }) p
      else queueReport (.answerFailed a.fleet a.asker) (freeAnswer i p)

/-- The verdict on a DEPART NOTICE (R84). -/
def noticeVerdict (delivered : Bool) (p : Part) : Part :=
  match p.xe.notices with
  | [] => p
  | n :: rest =>
    if delivered then { p with xe := { p.xe with notices := rest } }
    else if n.failures + 1 < 3 then
      let wait := p.spacingWait
      { p with xe := { p.xe with notices := { n with failures := n.failures + 1 } :: rest, noticeWait := wait } }
    else queueReport (.noticeDropped n.notice.fleet n.notice.slot) { p with xe := { p.xe with notices := rest } }

/-- The verdict on an answer to a claim (R59): three sendings in all. -/
def claimAnswerVerdict (delivered : Bool) : Part → Part :=
  modLif fun l =>
    { l with claimAnswer := match l.claimAnswer with
      | none => none
      | some n => if delivered || 3 ≤ n + 1 then none else some (n + 1) }

/-- The Exchange Engine gets the verdict on a frame that is no OFFER. -/
def frameVerdict (t : TxPlace) (delivered : Bool) (p : Part) : Part :=
  match t.key with
  | .call id =>
    let q := startSpacing p
    if delivered then callDelivered id t.frame q else callFailed id q
  | .transfer id => if delivered then transferDelivered id p else transferFailed id p
  | .question i => questionVerdict i delivered t.census t.stale p
  | .answer i => answerVerdict i t delivered p
  | .notice => noticeVerdict delivered p
  | .status => dropQuerier p
  | .claimAnswer => claimAnswerVerdict delivered p
  | _ => p

/-- An own frame found failed is counted (R48, R61): one not acknowledged, or flawed. An abandoned frame was counted at its echo
fault (R45). -/
def countOwnFailure (delivered abandoned : Bool) : Part → Part :=
  modCounters fun c => if delivered || abandoned then c else { c with ownFailures := bump c.ownFailures }

/-- The verdict's effect on the counts in ACTIVE (R48, R61). -/
def countVerdict (delivered abandoned : Bool) (p : Part) : Part :=
  modLif (fun l => { l with consecutiveFailures := if delivered then 0 else l.consecutiveFailures + 1 })
    (countOwnFailure delivered abandoned p)

/-- The verdict on an own frame in ACTIVE (R48, R51, R54). The Exchange Engine acts on it first; at the sixth failure the
node then goes MUTE, else an OFFER's window goes on. -/
def activeVerdict (t : TxPlace) (delivered : Bool) (p : Part) : Part :=
  let q := countVerdict delivered t.abandoned (clearTx p)
  let isOffer := t.key == .offer
  let q := if isOffer then (if delivered then q else releaseOffering q) else frameVerdict t delivered q
  if 6 ≤ q.lif.consecutiveFailures then enterMute false q
  else if isOffer then
    if delivered then windowWon t.frame.node t.frame.item t.frame.body q else windowFailed q
  else q

/-- The verdict on a claim (R58): given up where its flaw slot was dominant or it was abandoned, else its confirm period
starts (R57). One that is not acknowledged is a failed own frame and is counted as such, though it goes on to its confirm period
(R48, R61; DEDUCED, log entry 49). -/
def claimVerdict (abandoned ack flaw : Bool) (p : Part) : Part :=
  let q := countOwnFailure (ack && !flaw) abandoned (clearTx p)
  if abandoned || flaw then giveUpClaim false q
  else modLif (fun l => { l with claim := { l.claim with timer := some Config.claimPeriod } }) q

/-- The bits of the node's own frame that no earlier command has counted: its start bit is counted at the start, and an
abandoned one's up to its echo fault, after which it is read on to its slots (R39, R45). -/
def TxPlace.bitsLeft (t : TxPlace) (rest : List Bool) : List Bool := if t.abandoned then rest else t.frame.bits.drop 1

/-- The node's own frame ends, and its two slots are read (R48). DESIGN CHOICE (log entry 66): a frame that the node abandoned at an
echo fault (R45) and read on to its slots counts no number clash, though R60's last sentence speaks of one: its flaw slot is not
recessive. -/
def ownVerdict (slots : Slots) (endBits : Byte) (p : Part) : Part :=
  match p.lif.tx with
  | none => p
  | some t =>
    if !t.sending then p
    else
      let q := frameEnded (t.bitsLeft slots.rest) slots.ack slots.flaw endBits false t.abandoned p
      match p.lif.lineState with
      | .active => activeVerdict t (slots.ack && !slots.flaw && !t.abandoned) q
      | .claiming => claimVerdict t.abandoned slots.ack slots.flaw q
      | _ => p

/-- An echo fault (R45): the frame is abandoned, or a claim is lost in its body (R58; log entry 16). -/
def echo (inBody : Bool) (p : Part) : Part :=
  match p.contending with
  | none => p
  | some t =>
    if inBody && t.key == .claim then
      giveUpClaim true (modCounters (fun c => { c with lostContentions := bump c.lostContentions }) p)
    else if inBody && t.key == .claimAnswer then
      claimAnswerVerdict false (clearTx (modCounters (fun c => { c with lostContentions := bump c.lostContentions }) p))
    else
      modLif (fun l => { l with tx := some { t with abandoned := true }, lineBits := [], droveFlaw := true })
        (modCounters (fun c => { c with echoFaults := bump c.echoFaults, ownFailures := bump c.ownFailures }) p)

/-! ### Receiving a frame (R46 to R51, R60, R85, R193) -/

/-- A frame as the blocks behind the Line Interface see it: the kind, the frame, and whether it is addressed to all or to
this node (else it is marked addressed elsewhere). -/
structure Heard where
  kind : Nat
  frame : RxFrame
  mine : Bool
  delivered : Bool
  deriving DecidableEq, Repr

/-- The acceptance test of an addressed frame (R46), which one that does not fit fails (R193). -/
def Part.accepts (p : Part) (kind : Nat) (f : RxFrame) : Bool :=
  frameFits kind f.body &&
    match kind with
    | 7 => match p.reservation f.node (byteAt f.body 0) with
      | some r => r.held
      | none => false
    | 8 => p.xe.questions.any fun q => q.fleet == wordAt f.body 0 2
    | _ => true

/-- Whether the node drives the acknowledgement slot of a frame whose check passed, in ACTIVE (R46). -/
def Part.acknowledges (p : Part) (kind : Nat) (f : RxFrame) : Bool :=
  f.addressee == 0 || (f.addressee == p.lif.nodeNumber && p.accepts kind f)

/-- A clear in-use flag makes a NODE CLAIM of this node's number no clash (R60). DESIGN CHOICE (log entry 39): in a body too
short to hold the flag it reads clear. -/
def claimInUse (f : RxFrame) : Bool := (byteAt f.body 3).testBit 0

/-- A frame with this node's number from another station (R60). -/
def noteClash (kind : Nat) (f : RxFrame) (p : Part) : Part :=
  if f.node == p.lif.nodeNumber && !(kind == 13 && !claimInUse f) then
    queueReport (.numberClash f.node kind) (modCounters (fun c => { c with numberClashes := bump c.numberClashes }) p)
  else p

/-- A received frame has ended with its window OPEN (R51). -/
def windowHears (kind : Nat) (f : RxFrame) (delivered : Bool) (p : Part) : Part :=
  if p.lif.window.cond == .opened then
    if kind = 6 then (if delivered then windowWon f.node f.item f.body p else windowFailed p)
    else windowOver p
  else p

/-- A frame's start bit is read while the window is PENDING (R50); a frame of this node that was being sent has lost
contention to it (log entry 9). -/
def startBitRead (p : Part) : Part :=
  let q := loseContention p
  if q.lif.window.cond == .pending then windowOver q else q

/-- A frame that does not fit is reported and not acted on (R193). -/
def actIfFits (h : Heard) (act : Heard → Part → Part) (p : Part) : Part :=
  if frameFits h.kind h.frame.body then act h p else queueReport (.frameFormat h.kind h.frame.node) p

/-- A frame that does not fit, addressed to this node and so dropped, is reported all the same (log entry 14). -/
def dropFrame (kind : Nat) (f : RxFrame) (p : Part) : Part :=
  if frameFits kind f.body then p else queueReport (.frameFormat kind f.node) p

/-- A delivered call that does not fit still opens its window, on which no offer is made (R50, R193). DESIGN CHOICE (log entry 73): in a
body too short for them its call id reads as 0 and its offer retry limit as 1. -/
def openUnfit (kind : Nat) (f : RxFrame) (delivered : Bool) (p : Part) : Part :=
  let opened (k : CallFrameKind) : Part := openWindow (windowCallOf k f.node 1 f.body) p
  if delivered && !frameFits kind f.body then
    match kind with
    | 1 => opened .slot
    | 2 => opened .berth
    | 3 => opened .fuel
    | 4 => opened .wash
    | _ => p
  else p

/-- A frame whose check passed is received in ACTIVE. DESIGN CHOICE (log entry 63): a NUMBER_CLASH (R60) is queued first, then what
the window's end brings, then a FRAME_FORMAT or the reports of its action (R193). -/
def receiveActive (kind : Nat) (f : RxFrame) (act : Heard → Part → Part) (p : Part) : Part :=
  let q := startBitRead p
  let ack := q.acknowledges kind f
  let delivered := (ack || f.ack) && !f.flaw
  let q := heardEnded kind f ack false (modLif (fun l => { l with consecutiveFlaws := 0 }) q)
  if f.flaw then windowHears kind f false q
  else
    let elsewhere := f.addressee != 0 && f.addressee != q.lif.nodeNumber
    let q := openUnfit kind f delivered (windowHears kind f delivered (noteClash kind f q))
    if ack || elsewhere then actIfFits { kind := kind, frame := f, mine := !elsewhere, delivered := delivered } act q
    else dropFrame kind f q

/-- A TIME MARK is the one frame handed on in JOINING, CLAIMING and MUTE (R47); one of any kind that does not fit is
reported there too (R193; log entry 14). -/
def handMark (kind : Nat) (f : RxFrame) (act : Heard → Part → Part) : Part → Part :=
  actIfFits { kind := kind, frame := f, mine := true, delivered := true } (if kind = 0 then act else fun _ p => p)

/-- A frame whose check passed is received in CLAIMING (R47, R56, R58). DESIGN CHOICE (log entry 63): a FRAME_FORMAT, and what the
clock queues of a TIME MARK (R179), comes before the NO_NUMBER (R58) that the same frame's number may bring. -/
def receiveClaiming (kind : Nat) (f : RxFrame) (act : Heard → Part → Part) (p : Part) : Part :=
  let q := heardEnded kind f false false (loseContention p)
  if f.flaw then q
  else
    let q := handMark kind f act (hear f.node q)
    if kind == 13 && !frameFits 13 f.body then q else claimHears f.node q

/-- A frame whose check passed is received (R47); in LOST its bits are read and it is not handed on (R55). -/
def receive (kind : Nat) (f : RxFrame) (act : Heard → Part → Part) (p : Part) : Part :=
  match p.lif.lineState with
  | .offline => p
  | .lost => heardEnded kind f false false p
  | .joining | .mute =>
    let q := heardEnded kind f false false p
    if f.flaw then q else handMark kind f act q
  | .claiming => receiveClaiming kind f act p
  | .active => receiveActive kind f act p

/-- A frame whose check failed ends in ACTIVE: the node flaws it (R47, R49), and goes MUTE at the 32nd (R54). DESIGN CHOICE (log entry 62):
where it has won an OPEN window (R51) its kind is the one read, whatever bit of it was misread. -/
def flawActive (f : FlawedFrame) (p : Part) : Part :=
  let q := flawedEnded f true (startBitRead p)
  let q := modLif (fun l =>
    { l with consecutiveFlaws := l.consecutiveFlaws + 1,
             counters := { l.counters with flawsSignalled := bump l.counters.flawsSignalled } }) q
  if 32 ≤ q.lif.consecutiveFlaws then enterMute true q
  else if q.lif.window.cond == .opened then (if flawedKind f = 6 then windowFailed q else windowOver q)
  else q

/-- A frame of kind 14 or 15, whose end `ended` counts, is read to its end and ignored (R41); it closes a window as any
frame does (R50, R51). -/
def receiveUnused (ended : Part → Part) (p : Part) : Part :=
  match p.lif.lineState with
  | .offline => p
  | .lost => ended p
  | .active =>
    let q := ended (startBitRead p)
    if q.lif.window.cond == .opened then windowOver q else q
  | _ => ended (loseContention p)

/-- A frame whose check failed, a framing fault included, is received (R42, R47, R49, R61). -/
def receiveFlawed (f : FlawedFrame) (p : Part) : Part :=
  if flawedKind f = 14 || flawedKind f = 15 then receiveUnused (flawedEnded f false) p
  else
    let counted := modCounters (fun c => { c with checkFailures := bump c.checkFailures }) p
    match p.lif.lineState with
    | .offline => p
    | .lost => flawedEnded f false p
    | .active => flawActive f counted
    | _ => flawedEnded f false (loseContention counted)

end Sys2Proof.Machine
end

