-- ==== Sys2Proof/Machine/Frames.lean ====
section
/-! DEFINITION. The meanings of the frames heard on the yard line (R85): the Line Interface receives each (R46 to R51), and
what stands here is what the block behind it does with one that is handed on and fits. -/

namespace Sys2Proof.Machine

/-- A frame's command: nothing while the line is not read (OFFLINE; R39), else the reception and, where it may have handed
something on (not in LOST; R55), what follows it. -/
def lineEvent (f : Part → Part) (p : Part) : Part :=
  if p.lif.lineState == .offline then p else if p.lif.lineState == .lost then f p else settle (f p)

/-- A handed-on frame of a kind is not acted upon (R85). -/
def ignoreFrame (_ : Heard) (p : Part) : Part := p

/-! ### TIME MARK -/

/-- A TIME MARK goes to the Yard Clock wherever it is addressed (R85, R179). -/
def actTimeMark (h : Heard) (p : Part) : Part := takeMark (wordAt h.frame.body 0 3) h.frame.node p

/-- TIME_MARK_RECEIVED (R179). -/
def execTimeMarkReceived (frame : RxFrame) (s : State) : Host.Outcome State Fault Refusal :=
  s.perform (lineEvent (receive 0 frame actTimeMark))

/-! ### Calls -/

/-- A received call ends an earlier reservation of its caller and id; delivered, it opens its window; addressed to all, it is
considered (R50, R67, R85). DESIGN CHOICE (log entry 50): one delivered to another node opens the window too. -/
def actCall (kind : CallFrameKind) (h : Heard) (p : Part) : Part :=
  let c := windowCallOf kind h.frame.node h.frame.addressee h.frame.body
  if h.delivered then callTaken c p else releaseReservation c.caller c.callId p

/-- SLOT_CALL_RECEIVED (R143 to R149). -/
def execSlotCallReceived (frame : RxFrame) (s : State) : Host.Outcome State Fault Refusal :=
  s.perform (lineEvent (receive 1 frame (actCall .slot)))

/-- BERTH_CALL_RECEIVED (R130 to R134). -/
def execBerthCallReceived (frame : RxFrame) (s : State) : Host.Outcome State Fault Refusal :=
  s.perform (lineEvent (receive 2 frame (actCall .berth)))

/-- FUEL_CALL_RECEIVED (R105, R106). -/
def execFuelCallReceived (frame : RxFrame) (s : State) : Host.Outcome State Fault Refusal :=
  s.perform (lineEvent (receive 3 frame (actCall .fuel)))

/-- WASH_CALL_RECEIVED (R105, R106, R126). -/
def execWashCallReceived (frame : RxFrame) (s : State) : Host.Outcome State Fault Refusal :=
  s.perform (lineEvent (receive 4 frame (actCall .wash)))

/-! ### WHEREABOUTS -/

/-- A question enters the whereabouts memory: one of the same fleet number and asker is replaced, else the oldest of a full
memory (R81; log entry 34). -/
def remember (m : MemoryEntry) (p : Part) : Part :=
  let others := p.xe.memory.filter fun x => !(x.fleet == m.fleet && x.asker == m.asker)
  let kept := if others.length < 4 then others else others.drop 1
  { p with xe := { p.xe with memory := kept ++ [m] } }

/-- A WHEREABOUTS from another node is remembered, and answered where its bus is held (R77, R78, R81). -/
def actWhereabouts (h : Heard) (p : Part) : Part :=
  if !h.mine then p
  else
    let fleet := wordAt h.frame.body 0 2
    let gate := (byteAt h.frame.body 2).testBit 0
    let q := remember { fleet := fleet, asker := h.frame.node, gate := gate, expiry := some (3 * byteAt h.frame.body 3) } p
    match q.findFleet fleet with
    | some i => answerQuestion i h.frame.node gate q
    | none => q

/-- WHEREABOUTS_RECEIVED (R77, R78, R81). -/
def execWhereaboutsReceived (frame : RxFrame) (s : State) : Host.Outcome State Fault Refusal :=
  s.perform (lineEvent (receive 5 frame actWhereabouts))

/-! ### OFFER -/

/-- OFFER_RECEIVED (R51): its window's result is the Line Interface's. -/
def execOfferReceived (frame : RxFrame) (s : State) : Host.Outcome State Fault Refusal :=
  s.perform (lineEvent (receive 6 frame ignoreFrame))

/-! ### TRANSFER -/

/-- The call kind of an exchange whose call frame is of a kind (R13). -/
def CallFrameKind.callKind : CallFrameKind → Option CallKind
  | .slot => none
  | .berth => some .berth
  | .fuel => some .fuel
  | .wash => some .wash

/-- A bus stands here (R5): its record keeps its place when a TRANSFER is merged into it. -/
def PlaceState.stands : PlaceState → Bool
  | .intake | .parked | .awarded | .queued | .granted | .inService => true
  | _ => false

/-- An accepted TRANSFER is merged into a held record (R5). The reservation has been freed. -/
def mergeTransfer (i : Nat) (r : Rec) (m : Image) (resource : Resource) (p : Part) : Part :=
  if r.place.stands then modRecord i (Rec.merge m) p
  else takePlace i resource (modRecord i (Rec.merge m) (clearPlace .removed i p))

/-- The reservation of an accepted TRANSFER becomes its record's place (R70). -/
def placeTransfer (r : Reservation) (m : Image) (p : Part) : Part :=
  let q := releaseReservation r.caller r.callId p
  match q.findFleet m.fleet with
  | some i =>
    match q.record i with
    | some held => mergeTransfer i held m r.resource q
    | none => q
  | none =>
    match q.freeIndex with
    | some i => takePlace i r.resource (putRecord i (some (m.record r.kind.callKind)) q)
    | none => q

/-- A remembered question about the fleet number is answered, as a holder would, unless the asker sent the TRANSFER (R81). -/
def answerMemory (fleet sender : Nat) (p : Part) (m : MemoryEntry) : Part :=
  if m.fleet != fleet || m.asker == sender then p
  else
    let q := { p with xe := { p.xe with memory := p.xe.memory.filter (· != m) } }
    match q.findFleet fleet with
    | some i => answerQuestion i m.asker m.gate q
    | none => q

/-- A TRANSFER to this node is acted on (R70, R81). DESIGN CHOICE (log entry 41): several remembered questions about its
fleet number are answered oldest first. -/
def actTransfer (h : Heard) (p : Part) : Part :=
  if !h.mine then p
  else
    match p.reservation h.frame.node (byteAt h.frame.body 0), decodeImage (h.frame.body.drop 1) with
    | some r, some m =>
      if r.held then p.xe.memory.foldl (answerMemory m.fleet h.frame.node) (placeTransfer r m p) else p
    | _, _ => p

/-- TRANSFER_RECEIVED (R70). -/
def execTransferReceived (frame : RxFrame) (s : State) : Host.Outcome State Fault Refusal :=
  s.perform (lineEvent (receive 7 frame actTransfer))

/-! ### RELEASE and HELD -/

/-- A question of this node about a fleet number. -/
def Part.questionAbout (p : Part) (fleet : Nat) : Option Question := p.xe.questions.find? fun q => q.fleet == fleet

/-- A RELEASE to this node is merged into the asker's record and closes its question (R5, R82). -/
def takeRelease (m : Image) (p : Part) : Part :=
  match p.questionAbout m.fleet with
  | some q => closeQuestion q.record (modRecord q.record (Rec.merge m) p)
  | none => p

/-- A RELEASE addressed elsewhere takes its fleet number's questions out of the whereabouts memory (R81). -/
def forgetQuestions (fleet : Nat) (p : Part) : Part :=
  { p with xe := { p.xe with memory := p.xe.memory.filter fun m => m.fleet != fleet } }

/-- A RELEASE is acted on (R81, R82). -/
def actRelease (h : Heard) (p : Part) : Part :=
  match decodeImage h.frame.body with
  | some m => if h.mine then takeRelease m p else forgetQuestions m.fleet p
  | none => p

/-- RELEASE_RECEIVED (R82). -/
def execReleaseReceived (frame : RxFrame) (s : State) : Host.Outcome State Fault Refusal :=
  s.perform (lineEvent (receive 8 frame actRelease))

/-- A record whose question has been answered HELD is doubled, and its repeat timer starts (R8, R82), but for an APRON record's
that is stopped, which stays stopped until its exchange fails (R129; log entry 20). -/
def Rec.markDoubled (interval : Nat) (r : Rec) : Rec :=
  { r with doubled := true, repeatTimer := if r.place == .apron && r.repeatTimer.isNone then none else some interval }

/-- A HELD to this node is acted on where its question is ASKED (R82). -/
def actHeld (h : Heard) (p : Part) : Part :=
  if !h.mine then p
  else
    match p.questionAbout (wordAt h.frame.body 0 2) with
    | some q =>
      if q.state == .asked then
        closeQuestion q.record (modRecord q.record (Rec.markDoubled (p.setting (·.repeatInterval))) p)
      else p
    | none => p

/-- HELD_RECEIVED (R82). -/
def execHeldReceived (frame : RxFrame) (s : State) : Host.Outcome State Fault Refusal :=
  s.perform (lineEvent (receive 9 frame actHeld))

/-! ### The other kinds -/

/-- DEPART_NOTICE_RECEIVED (R85): not acted upon. -/
def execDepartNoticeReceived (frame : RxFrame) (s : State) : Host.Outcome State Fault Refusal :=
  s.perform (lineEvent (receive 10 frame ignoreFrame))

/-- A QUERY addressed to this node enters the status list, once for a querier, part and index, where it has room (R83). -/
def actQuery (h : Heard) (p : Part) : Part :=
  let q : Querier := { node := h.frame.node, part := byteAt h.frame.body 0, index := byteAt h.frame.body 1 }
  if h.mine && h.frame.addressee != 0 && !p.xe.statusList.contains q && p.xe.statusList.length < 4 then
    { p with xe := { p.xe with statusList := p.xe.statusList ++ [q] } }
  else p

/-- QUERY_RECEIVED (R83). -/
def execQueryReceived (frame : RxFrame) (s : State) : Host.Outcome State Fault Refusal :=
  s.perform (lineEvent (receive 11 frame actQuery))

/-- STATUS_FRAME_RECEIVED (R83): not acted upon. -/
def execStatusFrameReceived (frame : RxFrame) (s : State) : Host.Outcome State Fault Refusal :=
  s.perform (lineEvent (receive 12 frame ignoreFrame))

/-- A claim of this node's own number is answered, one answer at a time (R59). -/
def actNodeClaim (h : Heard) (p : Part) : Part :=
  if h.frame.node == p.lif.nodeNumber && !claimInUse h.frame && p.lif.claimAnswer.isNone then
    modLif (fun l => { l with claimAnswer := some 0 }) p
  else p

/-- NODE_CLAIM_RECEIVED (R58, R59). -/
def execNodeClaimReceived (frame : RxFrame) (s : State) : Host.Outcome State Fault Refusal :=
  s.perform (lineEvent (receive 13 frame actNodeClaim))

/-- UNUSED_KIND_FRAME (R41): a frame of kind 14 or 15. -/
def execUnusedKindFrame (frame : UnusedFrame) (s : State) : Host.Outcome State Fault Refusal :=
  s.perform (lineEvent (receiveUnused (heardEnded frame.kind frame.frame false false)))

/-- FLAWED_FRAME_RECEIVED (R47, R49). -/
def execFlawedFrameReceived (frame : FlawedFrame) (s : State) : Host.Outcome State Fault Refusal :=
  s.perform (lineEvent (receiveFlawed frame))

end Sys2Proof.Machine
end

