-- ==== Sys2Proof/Machine/LaneOps.lean ====
section
/-! DEFINITION. The Lane Map's work on reads and censuses (R24 to R34): giving way, the entry read, the exit read, the
census. -/

namespace Sys2Proof.Machine

/-! ### Giving way (R27) -/

/-- The newest berth reservation on lane n. -/
def Part.newestBerth (p : Part) (n : Nat) : Option Reservation :=
  p.xe.reservations.reverse.find? fun r => (r.unitsOn n).isSome

/-- A berth reservation on a lane is revoked (R22). -/
def revokeReservation (n : Nat) (r : Reservation) (p : Part) : Part :=
  queueReport (.reservationRevoked (p.aliasOf n) r.caller r.callId) (releaseReservation r.caller r.callId p)

/-- An inbound allocation on a lane is revoked (R27). -/
def revokeAllocation (n : Nat) (a : Alloc) (p : Part) : Part :=
  queueReport (.allocationRevoked (p.aliasOf n) (p.fleetOf a.record)) (becomeLoose a.record (freeAlloc a.record p))

/-- The record of an entry that giving way or a census drops becomes LOOSE; an AWARDED one first loses its award (R27,
R34). -/
def loosenEntry (e : Entry) (p : Part) : Part :=
  match e.kind with
  | .tracked i => becomeLoose i (loseAward i p)
  | _ => p

/-- The last entry of a lane is removed by giving way (R27). -/
def shedEntry (n k : Nat) (e : Entry) (p : Part) : Part :=
  loosenEntry e (queueReport (.orderFault (p.aliasOf n) e.fleet .giveWay) (eraseEntry n k p))

/-- A lane sheds one claim: its newest reservation, else its newest allocation, else its last entry (R27). -/
def shedOne (n : Nat) (p : Part) : Part :=
  match p.newestBerth n with
  | some r => revokeReservation n r p
  | none =>
    match p.lane n with
    | none => p
    | some l =>
      match l.allocs.getLast? with
      | some a => revokeAllocation n a p
      | none =>
        match l.entries.getLast? with
        | some e => shedEntry n (l.entries.length - 1) e p
        | none => p

/-- A lane sheds claims until a new entry of `units` fits, `fuel` bounding the number of claims (R27). -/
def giveWay (n units : Nat) : Nat → Part → Part
  | 0, p => p
  | fuel + 1, p => if p.fits n units then p else giveWay n units fuel (shedOne n p)

/-- No lane holds more claims than this. -/
def claimBound : Nat := 64

/-! ### The entry read (R24 to R26) -/

/-- The dig whose target a record is. -/
def Part.digOfTarget (p : Part) (i : Nat) : Option Dig := p.du.digs.find? fun d => d.target == i

/-- A dig whose target has been read into another place ends (R174). -/
def targetRead (i : Nat) (p : Part) : Part :=
  match p.digOfTarget i with
  | some d => endDig d .targetRead p
  | none => p

/-- The record of an entry that has been read elsewhere loses its place on a blocker list, or ends the dig whose target it
is (R170, R174). DESIGN CHOICE (log entry 71): a blocker that a census of another lane moves (R34) leaves its list as one that is
read there. -/
def entryMoved (e : Entry) (p : Part) : Part :=
  match e.kind with
  | .tracked i => targetRead i (dropBlocker i p)
  | _ => p

/-- A stale entry of a fleet number is removed from lane m: those ahead are marked, and an ORDER_FAULT with cause MOVED is
queued (R25, R34). -/
def removeStale (m k : Nat) (e : Entry) (p : Part) : Part :=
  entryMoved e (queueReport (.orderFault (p.aliasOf m) e.fleet .moved) (eraseEntry m k (markAhead m k p)))

/-- The node's entry of a fleet number, if there is one, is removed as stale (R25, first). -/
def dropStale (fleet : Nat) (p : Part) : Part :=
  match p.findEntry fleet with
  | some (m, k) =>
    match (p.lane m).bind fun l => l.entries[k]? with
    | some e => removeStale m k e p
    | none => p
  | none => p

/-- The units of a record's allocation on lane n. -/
def Part.allocUnits (p : Part) (n i : Nat) : Option Nat :=
  (p.lane n).bind fun l => (l.allocs.find? fun a => a.record == i).map (·.units)

/-- A record's allocation is freed by its read into lane n, with a WRONG_LANE report where it lay on another lane (R25,
second). -/
def readAllocation (n i fleet : Nat) (p : Part) : Part :=
  match p.allocOf i with
  | some m =>
    let q := freeAlloc i p
    if m = n then q else queueReport (.wrongLane (p.aliasOf m) (p.aliasOf n) fleet) q
  | none => p

/-- A record read into a lane has its other place cleared first (R25, third; log entry 12). -/
def clearForRead (i : Nat) (r : Rec) (p : Part) : Part :=
  match r.place, r.destination with
  | .parked, _ | .awarded, _ => dropBlocker i (closeCalls i p)
  | .enRoute, some (.lane _) => closeCalls i p
  | _, _ => clearPlace .removed i p

/-- An entry is added at the front or at the back of a lane (R24). -/
def addEntry (n : Nat) (atFront : Bool) (e : Entry) (p : Part) : Part :=
  modLane n (fun l => { l with entries := if atFront then e :: l.entries else l.entries ++ [e] }) p

/-- The award of a record follows its entry to another lane (R151). -/
def moveAward (i n : Nat) (p : Part) : Part :=
  { p with du := { p.du with awards := p.du.awards.map fun a => if a.record == i then { a with lane := n } else a } }

/-- A record stands in lane n (R25, R34). -/
def standHere (i n : Nat) (p : Part) : Part :=
  moveAward i n (modRecord i (fun r => { r.park (p.setting (·.repeatInterval)) with lastLane := some n }) p)

/-- A bus of a held record is read into lane n (R25). Its own allocation on the lane becomes its entry; else the lane gives
way where it must (R27). -/
def readHeld (n : Nat) (atFront : Bool) (t : Tag) (i : Nat) (r : Rec) (p : Part) : Part :=
  let own := p.allocUnits n i
  let q := clearForRead i r (readAllocation n i r.fleet p)
  let q := modRecord i (fun r => { r with fuel := r.fuel.fill t.fuel }) q
  let units := own.getD r.lengthClass.units
  let q := if own.isSome then q else giveWay n units claimBound q
  addEntry n atFront { fleet := r.fleet, units := units, kind := .tracked i, unconfirmed := false } (standHere i n q)

/-- A bus that the node does not know is read into lane n: a stray record with a question, or an UNTRACKED entry (R26;
log entry 24). -/
def readUnknown (n : Nat) (atFront : Bool) (t : Tag) (p : Part) : Part :=
  let units := t.lengthClass.units
  let q := giveWay n units claimBound p
  match (if q.recordCount < Config.recordSlots then q.freeIndex else none) with
  | some i =>
    askWhereabouts i false <|
      addEntry n atFront { fleet := t.fleet, units := units, kind := .tracked i, unconfirmed := false } <|
        putRecord i (some { t.record .parked with stray := true, lastLane := some n }) q
  | none =>
    queueReport (.untracked (q.aliasOf n) t.fleet) <|
      addEntry n atFront { fleet := t.fleet, units := units, kind := .untracked, unconfirmed := false } q

/-- An entry read (R24). -/
def entryRead (n : Nat) (atFront : Bool) (t : Tag) (p : Part) : Part :=
  let q := dropStale t.fleet p
  match q.findFleet t.fleet with
  | some i =>
    match q.record i with
    | some r => readHeld n atFront t i r q
    | none => q
  | none => readUnknown n atFront t q

/-! ### The exit read (R28, R29) -/

/-- The bus of an entry has left the lane: an award departs, a PARKED record becomes LOOSE (R28). -/
def entryLeft (n : Nat) (e : Entry) (p : Part) : Part :=
  match e.kind with
  | .tracked i => if p.recordIs i .awarded then depart i n p else becomeLoose i p
  | _ => p

/-- An exit read of the entry at position k; `fault` is the cause of R29 where it is an order fault. -/
def exitAt (n k : Nat) (e : Entry) (fault : Option OrderFaultCause) (p : Part) : Part :=
  match fault with
  | none => entryLeft n e (eraseEntry n k p)
  | some cause =>
    queueReport (.orderFault (p.aliasOf n) e.fleet cause) (entryLeft n e (eraseEntry n k (markAhead n k p)))

/-- An exit read at the mouth or the rear of lane n, of a bus in its list (R28, R29). `readerEnd` is its code: MOUTH 0,
REAR 1. -/
def exitRead (n readerEnd fleet : Nat) (p : Part) : Part :=
  match p.lane n with
  | none => p
  | some l =>
    match l.entries.findIdx? (fun e => e.fleet == fleet) with
    | none => p
    | some k =>
      match l.entries[k]? with
      | none => p
      | some e =>
        let fault : Option OrderFaultCause :=
          if readerEnd = 1 then some .rearExit else if k = 0 then none else some .nonFrontExit
        exitAt n k e fault p

/-! ### The census (R33, R34) -/

/-- The units that a listed bus counts in R33's test. -/
def Part.listedUnits (p : Part) (l : Lane) (fleet : Nat) (cls : LengthClass) : Nat :=
  match (p.findFleet fleet).bind p.record with
  | some r => r.lengthClass.units
  | none =>
    match l.entries.find? fun e => e.fleet == fleet && e.kind == .outbound with
    | some e => e.units
    | none => cls.units

/-- A census being built: the new list so far, and the counts moved, created, untracked. -/
structure CensusRun where
  entries : List Entry
  moved : Nat
  created : Nat
  untracked : Nat
  deriving DecidableEq, Repr

/-- A line's bus takes its position in the new list. -/
def CensusRun.add (run : CensusRun) (fleet units : Nat) (kind : EntryKind) : CensusRun :=
  { run with entries := run.entries ++ [{ fleet := fleet, units := units, kind := kind, unconfirmed := false }] }

/-- A fleet number's entry in another lane than n is removed as stale (R34). -/
def dropElsewhere (n fleet : Nat) (p : Part) : Part :=
  match p.findEntry fleet with
  | some (m, _) => if m = n then p else dropStale fleet p
  | none => p

/-- A line for a held record (R34). DESIGN CHOICE (log entry 48): an allocation on another lane that goes with its other place is
reported with WRONG_LANE, as by a read. -/
def censusHeld (n i : Nat) (r : Rec) (run : CensusRun) (p : Part) : CensusRun × Part :=
  let here := match p.entryOf i with
    | some (m, _) => m == n
    | none => false
  let q := if here then p else clearForRead i r (readAllocation n i r.fleet (dropElsewhere n r.fleet p))
  ({ run.add r.fleet r.lengthClass.units (.tracked i) with moved := run.moved + 1 }, standHere i n q)

/-- A line for a bus that the node holds no record of: an OUTBOUND entry of the lane stays so; else a record is created, or
an UNTRACKED entry made (R34). -/
def censusOther (n fleet : Nat) (cls : LengthClass) (run : CensusRun) (p : Part) : CensusRun × Part :=
  match (p.lane n).bind fun l => l.entries.find? fun e => e.fleet == fleet && e.kind == .outbound with
  | some e => (run.add fleet e.units .outbound, p)
  | none =>
    let q := dropElsewhere n fleet p
    match (if q.recordCount < Config.recordSlots then q.freeIndex else none) with
    | some i =>
      ({ run.add fleet cls.units (.tracked i) with created := run.created + 1 },
        askWhereabouts i false (putRecord i (some (censusRecord n fleet cls)) q))
    | none =>
      ({ run.add fleet cls.units .untracked with untracked := run.untracked + 1 },
        queueReport (.untracked (q.aliasOf n) fleet) q)

/-- One census line (R34). -/
def censusLine (n : Nat) (s : CensusRun × Part) (line : Nat × LengthClass) : CensusRun × Part :=
  match s.2.findFleet line.1 with
  | some i =>
    match s.2.record i with
    | some r => censusHeld n i r s.1 s.2
    | none => s
  | none => censusOther n line.1 line.2 s.1 s.2

/-- The new list of lane n is written. -/
def putEntries (n : Nat) (entries : List Entry) (p : Part) : Part := modLane n (fun l => { l with entries := entries }) p

/-- An accepted census (R34; log entry 35). The old list's entries that are not listed are dropped, and their records become
LOOSE. DESIGN CHOICE (log entry 61): they are dropped after every listed line, in the old list's order, mouth first. -/
def takeCensus (n : Nat) (lines : List (Nat × LengthClass)) (p : Part) : Part :=
  match p.lane n with
  | none => p
  | some l =>
    let dropped := l.entries.filter fun e => !(lines.any fun line => line.1 == e.fleet)
    let (run, q) := lines.foldl (censusLine n) ({ entries := [], moved := 0, created := 0, untracked := 0 }, p)
    let q := dropped.foldl (fun q e => loosenEntry e q) (putEntries n run.entries q)
    let loosed := dropped.countP fun e => match e.kind with
      | .tracked _ => true
      | _ => false
    queueReport (.censusDone l.laneAlias run.moved run.created run.untracked loosed) q

end Sys2Proof.Machine
end

