-- ==== Sys2Proof/Machine/GateAndLanes.lean ====
section
/-! DEFINITION. The meanings of the gate's and the lanes' commands: GATE_ARRIVAL and GATE_HOLD_EXPIRY (chapter 5), the lane
reads, LANE_HOLD, LANE_OPEN and CENSUS (chapter 2). -/

namespace Sys2Proof.Machine

/-! ### The gate -/

/-- The hold starts (R91). -/
def startHold (i : Nat) (p : Part) : Part :=
  let q := askWhereabouts i true p
  let q := { q with iu := { q.iu with
    intake := some { record := i, fleet := q.fleetOf i }, holdTimer := some (q.setting (·.gateHold)) } }
  route i q.intakeChoice (produce (.barrier false) q)

/-- The store cannot hold the bus: it is let through without a record (R88). -/
def letThrough (t : Tag) (p : Part) : Part :=
  queueReport (.gateNoRecord t.fleet t.fuel t.lengthClass)
    (produce (.barrier true) (produce (.guidance t.fleet .gate .apron .noRecord) p))

/-- The answer that a reused record owes is freed, unless its frame is in the transmit place (R90). -/
def freeUnsentAnswer (i : Nat) (p : Part) : Part := if p.inTx (.answer i) then p else freeAnswer i p

/-- A held record is reused for the arriving bus (R3, R90). The lane it last stood in stays
known (R150; log entry 21). The displays that the clearing queues come before HOLDING begins (log entry 67). With no award
dropped, the report's slot number is 0 (log entry 69). -/
def reuseRecord (i : Nat) (r : Rec) (t : Tag) (p : Part) : Part :=
  let slot := match r.award with
    | some (slot, _) => slot
    | none => 0
  let q := freeUnsentAnswer i (clearPlace .removed i p)
  startHold i (queueReport (.gateReused t.fleet r.place slot) (putRecord i (some { t.record .intake with lastLane := r.lastLane }) q))

/-- An accepted arrival (R88 to R90). -/
def takeArrival (t : Tag) (p : Part) : Part :=
  match p.findFleet t.fleet with
  | some i =>
    match p.record i with
    | some r => reuseRecord i r t p
    | none => p
  | none =>
    match (if p.recordCount < Config.recordSlots then p.freeIndex else none) with
    | some i => startHold i (putRecord i (some (t.record .intake)) p)
    | none => letThrough t p

/-- A GATE ARRIVAL is tested (R87). DESIGN CHOICE (log entry 42): its codes are tested before the gate and the output queue. -/
def decideArrival (raw : RawTag) (p : Part) : Decision :=
  if !p.iu.gatePresent then .refused .range
  else
    match readRawTag raw with
    | none => .refused .range
    | some t =>
      if p.holding then .refused .busy
      else if 64 < p.fp.outputs.length + 3 then .refused .busy
      else .accepted .none (settle (takeArrival t p))

/-- GATE_ARRIVAL (R87 to R91). -/
def execGateArrival (tag : RawTag) (s : State) : Host.Outcome State Fault Refusal :=
  s.perform (fieldMessage 2 (decideArrival tag))

/-- The call kind of a record's open or wanted exchange (R94; log entry 25). -/
def Part.callOf (p : Part) (i : Nat) : Option CallKind :=
  match p.exchangeOf i with
  | some e => some e.kind
  | none => ((p.record i).bind (·.wanted)).map (·.kind)

/-- The gate hold limit expires (R94). -/
def gateHoldExpires (p : Part) : Part :=
  match p.iu.intake with
  | some t =>
    if p.iu.holdTimer.isSome then
      queueReport (.holdExpired t.fleet (p.callOf t.record)) (endHold t.fleet .apron .holdLimit p)
    else p
  | none => p

/-- GATE_HOLD_EXPIRY (R94). -/
def execGateHoldExpiry (s : State) : Host.Outcome State Fault Refusal := s.perform gateHoldExpires

/-! ### Lane reads -/

/-- A lane has a reader at an end (R23): MOUTH 0 always, REAR 1 on a THROUGH lane. -/
def Lane.hasReader (l : Lane) (readerEnd : Nat) : Bool :=
  readerEnd = 0 || (readerEnd = 1 && l.type == .through)

/-- A bus read in at the mouth of a THROUGH lane is reported (R24). DESIGN CHOICE (log entry 55): the report comes before every
other report of the same read. -/
def noteWrongEnd (l : Lane) (readerEnd fleet : Nat) (p : Part) : Part :=
  if l.type == .through && readerEnd == 0 then queueReport (.wrongEnd l.laneAlias fleet) p else p

/-- An entry read's tag is read and processed (R23, R24). -/
def takeEntryRead (l : Lane) (n readerEnd : Nat) (raw : RawTag) (p : Part) : Decision :=
  match readRawTag raw with
  | none => .refused .range
  | some t => .accepted .none (settle (entryRead n (readerEnd == 0) t (noteWrongEnd l readerEnd t.fleet p)))

/-- A LANE READ with direction IN is tested and processed (R23, R24). -/
def decideEntryRead (n readerEnd : Nat) (raw : RawTag) (p : Part) : Decision :=
  match p.lane n with
  | none => .refused .range
  | some l =>
    if l.hasReader readerEnd then takeEntryRead l n readerEnd raw p else .refused .range

/-- An exit read of a bus that is not in the lane's list: reported, and nothing changes (R30; with no record held, the report's
place state is log entry 69). -/
def unknownExit (l : Lane) (readerEnd fleet : Nat) (p : Part) : Part :=
  queueReport (.unknownExit l.laneAlias readerEnd fleet (p.placeOfFleet fleet)) p

/-- A LANE READ with direction OUT is tested and processed (R23, R28 to R30; log entry 13). -/
def decideExitRead (n readerEnd fleet : Nat) (p : Part) : Decision :=
  match p.lane n with
  | none => .refused .range
  | some l =>
    if !l.hasReader readerEnd || !fleetOk fleet then .refused .range
    else if l.entries.any (fun e => e.fleet == fleet) then .accepted .none (settle (exitRead n readerEnd fleet p))
    else .accepted .none (unknownExit l readerEnd fleet p)

/-- A LANE READ by its direction byte: IN 0, OUT 1, and any other is refused with RANGE (section 12.2, R195). -/
def decideLaneRead (n : Nat) (side : ReadSide) (raw : RawTag) (p : Part) : Decision :=
  match side.direction with
  | 0 => decideEntryRead n side.readerEnd raw p
  | 1 => decideExitRead n side.readerEnd raw.fleet p
  | _ => .refused .range

/-- LANE_ENTRY_READ (R23 to R27). -/
def execLaneEntryRead (lane : Nat) (side : ReadSide) (tag : RawTag) (s : State) : Host.Outcome State Fault Refusal :=
  s.perform (fieldMessage 3 (decideLaneRead lane side tag))

/-- LANE_EXIT_READ (R23, R28 to R30). -/
def execLaneExitRead (lane readerEnd fleet : Nat) (s : State) : Host.Outcome State Fault Refusal :=
  s.perform (fieldMessage 3 (decideExitRead lane readerEnd fleet))

/-! ### Holding a lane -/

/-- A command moves a lane between OPEN and HELD; a lane in DIG refuses it (R35). -/
def decideLaneState (n : Nat) (target : LaneState) (p : Part) : Decision :=
  match p.lane n with
  | none => .refused .range
  | some l =>
    if l.state == .dig then .refused .state
    else .accepted .none (settleAspects (modLane n (fun l => { l with state := target }) p))

/-- LANE_HOLD (R35). -/
def execLaneHold (lane : Nat) (s : State) : Host.Outcome State Fault Refusal :=
  s.perform (fieldMessage 13 (decideLaneState lane .held))

/-- LANE_OPEN (R35). -/
def execLaneOpen (lane : Nat) (s : State) : Host.Outcome State Fault Refusal :=
  s.perform (fieldMessage 14 (decideLaneState lane .opened))

/-! ### The census -/

/-- The lines of a CENSUS with their length classes, where every code is one and every fleet number in range (R33, R195). -/
def readLine (line : Nat × Nat) : Option (Nat × LengthClass) :=
  match readClass line.2 with
  | some c => if fleetOk line.1 then some (line.1, c) else none
  | none => none

/-- All the lines read, or none at all. -/
def readLines : List (Nat × Nat) → Option (List (Nat × LengthClass))
  | [] => some []
  | l :: rest =>
    match readLine l, readLines rest with
    | some a, some as => some (a :: as)
    | _, _ => none

/-- A lane that takes no census: in DIG, or with inbound allocations or berth reservations (R33). -/
def Part.censusBarred (p : Part) (n : Nat) (l : Lane) : Bool :=
  l.state == .dig || !l.allocs.isEmpty || !(p.reservedUnits n).isEmpty

/-- The units of a census's buses (R33). -/
def Part.censusUnits (p : Part) (l : Lane) (lines : List (Nat × LengthClass)) : Nat :=
  (lines.map fun line => p.listedUnits l line.1 line.2).sum

/-- A CENSUS is tested in R33's order, and processed. DESIGN CHOICE (log entry 42): its codes (R195) are tested first. -/
def decideCensus (n : Nat) (raw : List (Nat × Nat)) (p : Part) : Decision :=
  match p.lane n, readLines raw with
  | some l, some lines =>
    if !(lines.map (·.1)).Nodup then .refused .range
    else if p.censusBarred n l then .refused .state
    else if 12 < lines.length || l.length < p.censusUnits l lines then .refused .full
    else .accepted .none (settle (takeCensus n lines p))
  | _, _ => .refused .range

/-- CENSUS (R33, R34). -/
def execCensus (lane : Nat) (lines : List (Nat × Nat)) (s : State) : Host.Outcome State Fault Refusal :=
  s.perform (fieldMessage 15 (decideCensus lane lines))

end Sys2Proof.Machine
end

