-- ==== Sys2Proof/Machine/PortCommands.lean ====
section
/-! DEFINITION. The meanings of the Field Port's own commands: CLEAR_COUNTERS, CLEAR_LOST, STATUS_REQUEST, and the events of
the field link (R183 to R188, R61, R62). -/

namespace Sys2Proof.Machine

/-- The counters that CLEAR COUNTERS sets to 0 (R61, R188). -/
def clearCounts (p : Part) : Part :=
  { p with
    lif := { p.lif with counters := Counters.zero }
    fp := { p.fp with overflow := 0, linkErrors := 0, outputDropped := 0 } }

/-- CLEAR_COUNTERS (R61, R188). -/
def execClearCounters (s : State) : Host.Outcome State Fault Refusal :=
  s.perform (fieldMessage 16 fun p => .accepted .none (clearCounts p))

/-- A CLEAR LOST is refused with STATE in LOST; else it clears the line-lost flag (R62). -/
def decideClearLost (p : Part) : Decision :=
  if p.lif.lineState == .lost then .refused .state
  else .accepted .none { p with lif := { p.lif with lineLost := false } }

/-- CLEAR_LOST (R62). -/
def execClearLost (s : State) : Host.Outcome State Fault Refusal := s.perform (fieldMessage 17 decideClearLost)

/-- STATUS_REQUEST (R188): the reply is sent as a STATUS message. -/
def execStatusRequest (s : State) : Host.Outcome State Fault Refusal :=
  s.perform (fieldMessage 18 fun p => .accepted (.status p.statusMessage) p)

/-- MALFORMED_MESSAGE (R183, R185): the reply names the kind byte as read, 0 if none was (R195). -/
def execMalformedMessage (kind : Nat) (s : State) : Host.Outcome State Fault Refusal := s.perform (malformed kind)

/-- A start byte while both receive places are taken (R184); with a place free there is nothing to lose (log entry 3). -/
def overflowIfFull (p : Part) : Part := if p.receiveFull then overflow p else p

/-- INPUT_OVERFLOW (R184). -/
def execInputOverflow (s : State) : Host.Outcome State Fault Refusal := s.perform overflowIfFull

/-- LINK_BYTE_DISCARDED (R183). -/
def execLinkByteDiscarded (s : State) : Host.Outcome State Fault Refusal :=
  s.perform fun p => { p with fp := { p.fp with linkErrors := bump p.fp.linkErrors } }

/-- MESSAGE_GAP_TIMEOUT (R183): the message cut short is malformed. -/
def execMessageGapTimeout (kind : Nat) (s : State) : Host.Outcome State Fault Refusal := s.perform (malformed kind)

/-- A message goes to the output line (R183, R186). -/
def sendMessage (m : SentMessage) (p : Part) : Part :=
  let bytes := fieldBytes m.parts.1 m.parts.2
  { p with fp := { p.fp with lineOut := some { message := m, bytes := bytes, bits := bytes.flatMap linkBits } } }

/-- The output line is free: the oldest reply, else the head of the output queue, else the head of the report queue is sent
(R186, R187). -/
def sendNext (p : Part) : Part :=
  match p.fp.replies, p.fp.outputs, p.fp.reports with
  | r :: rest, _, _ => sendMessage (.reply r) { p with fp := { p.fp with replies := rest } }
  | [], o :: rest, _ => sendMessage (.output o) { p with fp := { p.fp with outputs := rest } }
  | [], [], q :: rest => sendMessage (.report q p.fp.dropped) { p with fp := { p.fp with reports := rest, dropped := 0 } }
  | [], [], [] => p

/-- OUTPUT_LINE_FREE (R186). -/
def execOutputLineFree (s : State) : Host.Outcome State Fault Refusal := s.perform sendNext

end Sys2Proof.Machine
end

