-- ==== Sys2Proof/Machine/Sending.lean ====
section
/-! DEFINITION. The meanings of the node's own sending (R43 to R45, R48, R50) and of the changes of its line state (R53 to
R58). An event that the line state or the transmit place does not allow has no effect (log entry 2). -/

namespace Sys2Proof.Machine

/-! ### Sending -/

/-- A frame's start bit is read after the gap, of which the bits not yet counted are: it is counted, and the frame is on the line
(R39, R40, R43). -/
def startRead (p : Part) : Part := modLif (fun l => { l with rx := [false] }) (readBits [false] (readGap Config.gap p))

/-- The node's frame starts (R43): its bits are driven, and its start bit is read back. -/
def startTx (t : TxPlace) (p : Part) : Part :=
  startRead (modLif (fun l => { l with tx := some { t with sending := true }, lineBits := t.frame.bits }) p)

/-- The node may transmit in its line state (R43). -/
def Part.mayTransmit (p : Part) : Bool := p.lif.lineState == .active || p.lif.lineState == .claiming

/-- The frame that may start: it waits, is no OFFER, no window is pending or open, and no frame of another station is on the
line, which is received first (R43). Its start brings what is left of the gap (`startRead`). -/
def Part.starting (p : Part) : Option TxPlace :=
  match p.lif.tx with
  | some t =>
    if p.mayTransmit && !t.sending && t.key != .offer && p.lif.window.cond == .closed && p.lif.rx.isEmpty then some t else none
  | none => none

/-- The waiting frame starts, where it may (R43). -/
def transmits (p : Part) : Part :=
  match p.starting with
  | some t => startTx t p
  | none => p

/-- TRANSMIT_START (R43). -/
def execTransmitStart (s : State) : Host.Outcome State Fault Refusal := s.perform transmits

/-- The window is OPEN from its first bit until the winning frame ends (R50). -/
def setOpened (p : Part) : Part := modLif (fun l => { l with window := { l.window with cond := .opened } }) p

/-- A frame of another station starts at the window's first bit (R50): its start bit is read. -/
def otherStart (p : Part) : Part := startRead (setOpened p)

/-- Nothing starts at the window's first bit, the 13th recessive bit since the last frame's end field began (R50): the bits
of the gap that no command has counted are, and the window closes empty. -/
def nothingStarts (p : Part) : Part :=
  settle (windowOver (readGap (Config.gap + 1) p))

/-- The first bit of a PENDING window (R50): this node's OFFER starts, or another station's frame, or nothing. -/
def firstBit (otherStarts : Bool) (p : Part) : Part :=
  if p.lif.window.cond == .pending then
    match p.lif.tx with
    | some t =>
      if t.key == .offer then setOpened (startTx t p)
      else if otherStarts then otherStart p
      else nothingStarts p
    | none => if otherStarts then otherStart p else nothingStarts p
  else p

/-- WINDOW_FIRST_BIT (R50). -/
def execWindowFirstBit (otherStarts : Bool) (s : State) : Host.Outcome State Fault Refusal :=
  s.perform (firstBit otherStarts)

/-- The bit that a frame drives as its bit of a number, the start bit being number 1 (section 12.1). -/
def Frame.bitAt (f : Frame) (bit : Nat) : Option Bool := f.bits[bit - 1]?

/-- The bits of a frame from its second are read back, up to one that reads otherwise than it is driven (R39, R43). -/
def readBack (f : Frame) (bit : Nat) (read : Bool) (p : Part) : Part :=
  modLif (fun l => { l with rx := f.bits.take (bit - 1) ++ [read] }) (readBits ((f.bits.drop 1).take (bit - 2) ++ [read]) p)

/-- The frame being sent, if there is one, loses contention at a bit that it reads dominant (R44). -/
def contentionLost (p : Part) : Part :=
  match p.contending with
  | some _ => settle (loseContention (readBits [false] p))
  | none => p

/-- LOST_CONTENTION (R44). -/
def execLostContention (s : State) : Host.Outcome State Fault Refusal := s.perform contentionLost

/-- A bit of a frame lies in its body: the first is bit 44 (section 12.1). -/
def Frame.bodyHas (f : Frame) (bit : Nat) : Bool := 44 ≤ bit && bit ≤ 43 + 8 * f.body.length

/-- An echo fault at a bit after the contention field of the frame being sent, if there is one that has that bit (R45). -/
def echoes (bit : Nat) (p : Part) : Part :=
  match p.contending with
  | some t =>
    match t.frame.bitAt bit with
    | some driven =>
      if 34 ≤ bit then settle (echo (t.frame.bodyHas bit) (readBack t.frame bit (!driven) p)) else p
    | none => p
  | none => p

/-- ECHO_FAULT (R45). -/
def execEchoFault (bit : Nat) (s : State) : Host.Outcome State Fault Refusal := s.perform (echoes bit)

/-- The node's own frame has ended (R48). -/
def frameJudged (slots : Slots) (endBits : Byte) (p : Part) : Part :=
  match p.lif.tx with
  | some t => if t.sending then settle (ownVerdict slots endBits p) else p
  | none => p

/-- OWN_FRAME_VERDICT (R48). -/
def execOwnFrameVerdict (slots : Slots) (endBits : Byte) (s : State) : Host.Outcome State Fault Refusal :=
  s.perform (frameJudged slots endBits)

/-! ### Line states -/

/-- The JOINING wait is over (R53): ACTIVE with a node number, else CLAIMING with a listening period (R57). 64 recessive bits
have then been read; where fewer have been counted, the event brings the others (log entry 8). -/
def joined (p : Part) : Part :=
  if p.lif.lineState == .joining then
    let q := modLif (fun l => { l with quiet := max 64 l.quiet, stuck := 0, gap := max 64 l.gap }) p
    if q.lif.nodeNumber = 0 then modLif (fun l => { l with lineState := .claiming, claim := Claim.listening }) q
    else settle (enterActive q)
  else p

/-- JOINING_COMPLETE (R53). -/
def execJoiningComplete (s : State) : Host.Outcome State Fault Refusal := s.perform joined

/-- The states in which a stuck line leads to LOST (R55). -/
def LineState.losable (st : LineState) : Bool := st != .offline && st != .lost

/-- The line has been dominant for 256 bits (R55). -/
def losesLine (p : Part) : Part := if p.lif.lineState.losable then settle (enterLost p) else p

/-- LINE_LOST (R55). -/
def execLineLost (s : State) : Host.Outcome State Fault Refusal := s.perform losesLine

/-- LOST ends after 64 recessive bits (R55). -/
def lostEnds (p : Part) : Part :=
  if p.lif.lineState == .lost then settle (enterJoining (modLif (fun l => { l with stuck := 0, gap := max 64 l.gap }) p)) else p

/-- LOST_END (R55). -/
def execLostEnd (s : State) : Host.Outcome State Fault Refusal := s.perform lostEnds

/-- The stand-down expires (R54). -/
def standsUp (p : Part) : Part :=
  if p.lif.lineState == .mute && p.lif.standDown.isSome then resetCounts (enterJoining p) else p

/-- STAND_DOWN_EXPIRY (R54). -/
def execStandDownExpiry (s : State) : Host.Outcome State Fault Refusal := s.perform standsUp

/-- The listening period expires (R57). -/
def listened (p : Part) : Part :=
  if p.lif.lineState == .claiming && p.lif.claim.number.isNone && p.lif.claim.timer.isSome then chooseNumber p else p

/-- LISTENING_PERIOD_EXPIRY (R57). -/
def execListeningPeriodExpiry (s : State) : Host.Outcome State Fault Refusal := s.perform listened

/-- The confirm period expires: the number under claim becomes the node number (R58). -/
def confirmed (p : Part) : Part :=
  match p.lif.claim.number with
  | some n =>
    if p.lif.lineState == .claiming && p.lif.claim.timer.isSome then
      settle (enterActive (modLif (fun l => { l with nodeNumber := n, claimed := true, claim := Claim.empty }) p))
    else p
  | none => p

/-- CONFIRM_PERIOD_EXPIRY (R58). -/
def execConfirmPeriodExpiry (s : State) : Host.Outcome State Fault Refusal := s.perform confirmed

end Sys2Proof.Machine
end

