-- ==== Sys2Proof/Machine/Setup.lean ====
section
/-! DEFINITION. The settings message: its layout, its malformations, clamping and defaults (R189, R190, section 12.5), the
start of the node (R191), and the meanings of the two resets and of CONFIG. -/

namespace Sys2Proof.Machine

/-! ### The layout (R189, section 12.5) -/

/-- A lane as a CONFIG carries it. -/
structure RawLane where
  type : Nat
  length : Nat
  laneAlias : Nat
  weight : Nat
  fallback : Nat
  deriving DecidableEq, Repr

/-- A CONFIG's fields as carried. -/
structure RawConfig where
  node : Nat
  rate : Nat
  timeSource : Nat
  gate : Nat
  lanes : List RawLane
  kind : Nat
  stationCount : Nat
  fuels : List Nat
  rotation : Nat
  retryLimit : Nat
  offerRetryLimit : Nat
  fuelThreshold : Nat
  reservationTimeout : Nat
  grantLimit : Nat
  overrunLimit : Nat
  awardLimit : Nat
  repeatInterval : Nat
  spacing : Nat
  gateHold : Nat
  washOpen : Nat
  washCutOff : Nat
  deriving DecidableEq, Repr

/-- The lane whose five bytes start at offset o. -/
def rawLane (b : List Byte) (o : Nat) : RawLane :=
  { type := byteAt b o, length := byteAt b (o + 1), laneAlias := byteAt b (o + 2), weight := byteAt b (o + 3),
    fallback := byteAt b (o + 4) }

/-- The offset of the point kind. -/
def kindOffset (b : List Byte) : Nat := 5 + 5 * byteAt b 4

/-- The number of stations carried, none for point kind NONE. -/
def carriedStations (b : List Byte) : Nat := if byteAt b (kindOffset b) = 0 then 0 else byteAt b (kindOffset b + 1)

/-- The number of station fuel kinds carried: those of a FUEL point. -/
def carriedFuels (b : List Byte) : Nat := if byteAt b (kindOffset b) = 1 then carriedStations b else 0

/-- The offset of the rotation mode. -/
def tailOffset (b : List Byte) : Nat :=
  kindOffset b + 1 + (if byteAt b (kindOffset b) = 0 then 0 else 1) + carriedFuels b

/-- The fields of a body, by its own counts. -/
def rawConfig (b : List Byte) : RawConfig :=
  let t := tailOffset b
  { node := byteAt b 0
    rate := byteAt b 1
    timeSource := byteAt b 2
    gate := byteAt b 3
    lanes := (List.range (byteAt b 4)).map fun i => rawLane b (5 + 5 * i)
    kind := byteAt b (kindOffset b)
    stationCount := carriedStations b
    fuels := (List.range (carriedFuels b)).map fun i => byteAt b (kindOffset b + 2 + i)
    rotation := byteAt b t
    retryLimit := byteAt b (t + 1)
    offerRetryLimit := byteAt b (t + 2)
    fuelThreshold := byteAt b (t + 3)
    reservationTimeout := byteAt b (t + 4)
    grantLimit := byteAt b (t + 5)
    overrunLimit := byteAt b (t + 6)
    awardLimit := byteAt b (t + 7)
    repeatInterval := byteAt b (t + 8)
    spacing := wordAt b (t + 9) 2
    gateHold := wordAt b (t + 11) 2
    washOpen := wordAt b (t + 13) 2
    washCutOff := wordAt b (t + 15) 2 }

/-- A lane's code fields hold codes. -/
def RawLane.codesOk (l : RawLane) : Bool := l.type ≤ 1 && l.fallback ≤ 1

/-- No malformation of R183 or R189. -/
def configOk (b : List Byte) : Bool :=
  let c := rawConfig b
  byteAt b 4 ≤ 6 && c.kind ≤ 2 && b.length == tailOffset b + 17
    && (c.kind == 0 || (1 ≤ c.stationCount && c.stationCount ≤ 4))
    && c.lanes.all RawLane.codesOk && c.fuels.all (· ≤ 1) && (c.rotation ≤ 1 || c.rotation == 255)
    && c.timeSource ≤ 1 && c.gate ≤ 1

/-! ### Clamping and defaults (R190) -/

/-- A setting taken, with the report of its clamping if it was clamped. -/
abbrev Taken := Nat × List Report

/-- A value carried is taken as `taken`, with a report where the two differ. -/
def takeAs (name : SettingName) (part carried taken : Nat) : Taken :=
  (taken, if taken = carried then [] else [.configClamped name part carried taken])

/-- A value is clamped to its setting's range. -/
def clampTo (name : SettingName) (part lo hi carried : Nat) : Taken := takeAs name part carried (max lo (min carried hi))

/-- A setting with a default: the mark DEFAULT takes it, another value is clamped. -/
def clampOr (name : SettingName) (mark dflt lo hi carried : Nat) : Taken :=
  if carried = mark then (dflt, []) else clampTo name 0 lo hi carried

/-- The nearer of the two rates (R190). -/
def nearRate (n : Nat) : Nat := if n ≤ 187 then 125 else 250

/-- The nearest of the four reservation timeouts, the lower of two equally near (R190). -/
def nearTimeout (n : Nat) : Nat := if n ≤ 35 then 20 else if n ≤ 75 then 50 else if n ≤ 150 then 100 else 200

/-- The reservation timeout. -/
def takeTimeout (carried : Nat) : Taken :=
  if carried = 255 then (50, []) else takeAs .reservationTimeout 0 carried (nearTimeout carried)

/-- A configured lane, OPEN and empty (R18), with its clamping reports. -/
def takeLane (n : Nat) (l : RawLane) : Lane × List Report :=
  let length := clampTo .laneLength n 4 24 l.length
  let laneAlias := clampTo .laneAlias n 1 255 l.laneAlias
  let weight := clampTo .laneWeight n 0 63 l.weight
  ({ laneAlias := laneAlias.1
     type := if l.type = 0 then .deadEnd else .through
     length := length.1
     weight := weight.1
     fallback := if l.fallback = 0 then .hold else .stop
     state := .opened
     entries := []
     allocs := []
     computed := .stop
     displayed := .stop },
   length.2 ++ laneAlias.2 ++ weight.2)

/-- A CONFIG as taken: every setting clamped, and the CONFIG_CLAMPED reports in the order of R189's table. -/
structure TakenConfig where
  node : Nat
  rate : BitRate
  gate : Bool
  lanes : List Lane
  settings : Settings
  kind : Option ServiceKind
  stations : List Station
  rotating : Bool
  retryLimit : Nat
  grantLimit : Nat
  overrunLimit : Nat
  reports : List Report
  deriving DecidableEq, Repr

/-- The point kind of a code. -/
def readPointKind : Nat → Option ServiceKind
  | 1 => some .fuel
  | 2 => some .wash
  | _ => none

/-- A FREE station with a blank display (R98). -/
def freeStation (fuel : Option FuelKind) : Station :=
  { fuel := fuel, state := .free, record := none, fleet := 0, level := none, startTag := 0, energyBefore := none,
    timer := none, guidance := none }

/-- The stations of a point, with their fuel kinds at a FUEL point (R98). -/
def RawConfig.stations (c : RawConfig) : List Station :=
  if c.kind = 1 then c.fuels.map fun f => freeStation (some (if f = 0 then .d else .g))
  else (List.range c.stationCount).map fun _ => freeStation none

/-- The lanes taken, in local-number order, with their reports. -/
def RawConfig.takeLanes (c : RawConfig) : List (Lane × List Report) := c.lanes.mapIdx fun k l => takeLane (k + 1) l

/-- A CONFIG's values as clamped, in ms where they are durations (R189, R190). -/
def RawConfig.taken (c : RawConfig) : TakenConfig :=
  let node := clampTo .nodeNumber 0 0 31 c.node
  let rate := takeAs .bitRate 0 c.rate (nearRate c.rate)
  let lanes := c.takeLanes
  let retry := clampOr .retryLimit 255 1 0 2 c.retryLimit
  let offerRetry := clampOr .offerRetryLimit 255 1 1 2 c.offerRetryLimit
  let threshold := clampOr .fuelThreshold 255 90 0 100 c.fuelThreshold
  let timeout := takeTimeout c.reservationTimeout
  let grantLimit := clampOr .grantLimit 255 3 1 15 c.grantLimit
  let overrun := clampOr .overrunLimit 255 (if c.kind = 1 then 20 else 15) 1 60 c.overrunLimit
  let award := clampOr .awardLimit 255 8 2 30 c.awardLimit
  let repeatInterval := clampOr .repeatInterval 255 10 5 60 c.repeatInterval
  let spacing := clampOr .callSpacing 65535 50 20 500 c.spacing
  let hold := clampOr .gateHoldLimit 65535 90 30 300 c.gateHold
  let washOpen := clampOr .washOpen 65535 1080 0 1439 c.washOpen
  let cutOff := clampOr .washCutOff 65535 150 0 1439 c.washCutOff
  { node := node.1
    rate := if rate.1 = 125 then .kbit125 else .kbit250
    gate := c.gate == 1
    lanes := lanes.map (·.1)
    settings :=
      { timeSource := c.timeSource == 1
        offerRetryLimit := offerRetry.1
        fuelThreshold := threshold.1
        reservationTimeout := timeout.1
        awardLimit := award.1 * 60000
        repeatInterval := repeatInterval.1 * 1000
        spacing := spacing.1
        gateHold := hold.1 * 1000
        washOpen := washOpen.1
        washCutOff := cutOff.1 }
    kind := readPointKind c.kind
    stations := c.stations
    rotating := c.rotation == 1
    retryLimit := retry.1
    grantLimit := grantLimit.1 * 60000
    overrunLimit := overrun.1 * 60000
    reports := node.2 ++ rate.2 ++ lanes.flatMap (·.2) ++ retry.2 ++ offerRetry.2 ++ threshold.2 ++ timeout.2
      ++ grantLimit.2 ++ overrun.2 ++ award.2 ++ repeatInterval.2 ++ spacing.2 ++ hold.2 ++ washOpen.2 ++ cutOff.2 }

/-- No two lanes carry the same alias (R190). -/
def TakenConfig.aliasesDiffer (c : TakenConfig) : Bool := (c.lanes.map (·.laneAlias)).Nodup

/-! ### The start of the node (R191) -/

/-- The Turn Scheduler's settings, which a CONFIG of any point kind stores (R189, R191), and the point that it creates: OPEN,
with nothing in its queue (R98). A CONFIG of point kind NONE leaves the Turn Scheduler without a point. -/
def TakenConfig.turnScheduler (c : TakenConfig) : TurnScheduler :=
  let t := { TurnScheduler.noPoint with
    rotating := c.rotating, retryLimit := c.retryLimit, grantLimit := c.grantLimit, overrunLimit := c.overrunLimit }
  match c.kind with
  | none => t
  | some k => { t with kind := some k, opened := true, stations := c.stations }

/-- One LANE ASPECT per configured lane, in local-number order (R18). -/
def showLanes (p : Part) : Part :=
  p.laneNumbers.foldl (fun q n => produce (.laneAspect n (q.aliasOf n) .stop) q) p

/-- One STATION DISPLAY per station, blank, in station order (R98). -/
def showStations (p : Part) : Part :=
  p.stationNumbers.foldl (fun q k => produce (.stationDisplay k .blank 0 none) q) p

/-- An accepted CONFIG starts the node, in the order of R191. -/
def startNode (c : TakenConfig) (p : Part) : Part :=
  let p := c.reports.foldl (fun q r => queueReport r q) { p with settings := some c.settings }
  let p :=
    { p with
      rs := RecordStore.empty
      xe := ExchangeEngine.empty
      du := { awards := [], digs := [] }
      iu := { gatePresent := c.gate, intake := none, holdTimer := none }
      lm := { lanes := c.lanes } }
  let p := showLanes p
  let p := showStations { p with ts := c.turnScheduler }
  let p := evaluateWash p
  { p with lif := { p.lif with
    bitRate := some c.rate, nodeNumber := c.node, claimed := false, lineState := .joining, quiet := 0, stuck := 0, gap := 0,
    window := Window.shut } }

/-- A well-formed CONFIG is decided (R191). DESIGN CHOICE (log entry 68): one with a duplicate alias while settings are held is
refused with RANGE, by the order of R191's table, not with STATE, as the sentence under it says of any such CONFIG. -/
def decideConfig (c : TakenConfig) (p : Part) : Decision :=
  if !c.aliasesDiffer then .refused .range
  else if p.lif.lineState == .offline then .accepted .none (startNode c p)
  else .refused .state

/-! ### The meanings -/

/-- POWER_ON_RESET (R192): the clock is zeroed too (R177). -/
def execPowerOnReset (straps : LinkRate) (s : State) : Host.Outcome State Fault Refusal :=
  s.perform fun p => Part.afterReset straps false p.identity YardClock.atPowerOn

/-- EXTERNAL_RESET (R192): the clock runs on, its set flag kept (R177). -/
def execExternalReset (straps : LinkRate) (s : State) : Host.Outcome State Fault Refusal :=
  s.perform fun p => Part.afterReset straps true p.identity p.yc

/-- CONFIG (R191). -/
def execConfig (body : List Byte) (s : State) : Host.Outcome State Fault Refusal :=
  s.perform fun p =>
    if configOk body then fieldMessage 1 (decideConfig (rawConfig body).taken) p else malformed 1 p

end Sys2Proof.Machine
end

