-- ==== Sys2Proof/Machine/Timers.lean ====
section
/-! DEFINITION. The meanings of the timer expiries of the Exchange Engine, the Record Store and the Departure Unit, and of
the minute tick. An expiry has its effect where its timer runs, else none (log entry 2). -/

namespace Sys2Proof.Machine

/-! ### The Exchange Engine -/

/-- The spacing timer expires (R65). -/
def spacingExpires (p : Part) : Part :=
  if p.xe.spacing.isSome then pump { p with xe := { p.xe with spacing := none } } else p

/-- SPACING_TIMER_EXPIRY (R65). -/
def execSpacingTimerExpiry (s : State) : Host.Outcome State Fault Refusal := s.perform spacingExpires

/-- An exchange's wait timer expires (R66, R69, R75): in ACTIVE its frame is ready again, else a failed sending counts. -/
def exchangeWaitEnds (e : Exchange) (p : Part) : Part :=
  let q := modExchange e.id (fun x => { x with wait := none }) p
  if p.active then pump q
  else
    match e.state with
    | .pending => settle (callFailed e.id q)
    | .handover => settle (transferFailed e.id q)
    | _ => q

/-- The wait timer of an exchange id, where it runs. -/
def exchangeWaitExpires (id : Nat) (p : Part) : Part :=
  match p.exchange id with
  | some e => if e.wait.isSome then exchangeWaitEnds e p else p
  | none => p

/-- EXCHANGE_WAIT_EXPIRY (R75). -/
def execExchangeWaitExpiry (exchange : Nat) (s : State) : Host.Outcome State Fault Refusal :=
  s.perform (exchangeWaitExpires exchange)

/-- A HELD reservation's timer expires (R68). -/
def reservationExpires (caller id : Nat) (p : Part) : Part :=
  match p.reservation caller id with
  | some r => if r.timer.isSome then releaseReservation caller id p else p
  | none => p

/-- RESERVATION_TIMEOUT (R68). -/
def execReservationTimeout (caller exchange : Nat) (s : State) : Host.Outcome State Fault Refusal :=
  s.perform (reservationExpires caller exchange)

/-- A question's wait timer expires (R76). -/
def questionWaitExpires (i : Nat) (p : Part) : Part :=
  match p.questionOf i with
  | some q => if q.wait.isSome then pump (modQuestion i (fun q => { q with wait := none }) p) else p
  | none => p

/-- QUESTION_WAIT_EXPIRY (R76). -/
def execQuestionWaitExpiry (record : Nat) (s : State) : Host.Outcome State Fault Refusal :=
  s.perform (questionWaitExpires record)

/-- An ASKED question's answer timer expires: the bus is adopted (R82). -/
def answerTimerExpires (i : Nat) (p : Part) : Part :=
  match p.questionOf i with
  | some q => if q.state == .asked && q.answerTimer.isSome then adopt i p else p
  | none => p

/-- ANSWER_TIMER_EXPIRY (R82). -/
def execAnswerTimerExpiry (record : Nat) (s : State) : Host.Outcome State Fault Refusal :=
  s.perform (answerTimerExpires record)

/-- An answer's wait timer expires (R79). -/
def answerWaitExpires (i : Nat) (p : Part) : Part :=
  match p.answerOf i with
  | some a => if a.wait.isSome then pump (modAnswer i (fun a => { a with wait := none }) p) else p
  | none => p

/-- ANSWER_WAIT_EXPIRY (R79). -/
def execAnswerWaitExpiry (record : Nat) (s : State) : Host.Outcome State Fault Refusal :=
  s.perform (answerWaitExpires record)

/-- The notice list's wait timer expires (R84). -/
def noticeWaitExpires (p : Part) : Part :=
  if p.xe.noticeWait.isSome then pump { p with xe := { p.xe with noticeWait := none } } else p

/-- NOTICE_WAIT_EXPIRY (R84). -/
def execNoticeWaitExpiry (s : State) : Host.Outcome State Fault Refusal := s.perform noticeWaitExpires

/-- A whereabouts-memory entry's expiry runs out (R81). -/
def memoryExpires (fleet asker : Nat) (p : Part) : Part :=
  { p with xe := { p.xe with memory := p.xe.memory.filter fun m =>
      !(m.fleet == fleet && m.asker == asker && m.expiry.isSome) } }

/-- WHEREABOUTS_MEMORY_EXPIRY (R81). -/
def execWhereaboutsMemoryExpiry (fleet asker : Nat) (s : State) : Host.Outcome State Fault Refusal :=
  s.perform (memoryExpires fleet asker)

/-! ### The Record Store -/

/-- An EN_ROUTE record's inbound limit expires (R11). -/
def inboundExpires (i : Nat) (p : Part) : Part :=
  match p.record i with
  | some r =>
    if r.place == .enRoute && r.placeTimer.isSome then
      settle (queueReport (.inboundExpired r.fleet r.destination) (becomeLoose i (freeAlloc i p)))
    else p
  | none => p

/-- INBOUND_LIMIT_EXPIRY (R11). -/
def execInboundLimitExpiry (record : Nat) (s : State) : Host.Outcome State Fault Refusal :=
  s.perform (inboundExpires record)

/-- A LOOSE record's loose limit expires (R12). -/
def looseExpires (i : Nat) (p : Part) : Part :=
  match p.record i with
  | some r =>
    if r.place == .loose && r.placeTimer.isSome then
      settle (queueReport (.lost r.fleet) (deleteRecord .removed i p))
    else p
  | none => p

/-- LOOSE_LIMIT_EXPIRY (R12). -/
def execLooseLimitExpiry (record : Nat) (s : State) : Host.Outcome State Fault Refusal := s.perform (looseExpires record)

/-- A record's one repeat timer (R1) expires: a doubled record's question is put again, without the gate flag (R8, R82; DESIGN
CHOICE, log entry 37), and a new BERTH exchange is requested for an APRON record (R14, R129; log entry 20). -/
def repeatEnds (i : Nat) (r : Rec) (p : Part) : Part :=
  let p := modRecord i (fun r => { r with repeatTimer := none }) p
  let p := if r.doubled then askWhereabouts i false p else p
  if r.place == .apron then settle (route i (fun _ => .berth) p) else pump p

/-- An APRON record's repeat timer expires (R14, R129). -/
def apronRepeats (i : Nat) (p : Part) : Part :=
  match p.record i with
  | some r => if r.place == .apron && r.repeatTimer.isSome then repeatEnds i r p else p
  | none => p

/-- APRON_REPEAT (R14). -/
def execApronRepeat (record : Nat) (s : State) : Host.Outcome State Fault Refusal := s.perform (apronRepeats record)

/-- A doubled record's repeat timer expires: its question is put again (R8, R82), without the gate flag (DESIGN CHOICE, log
entry 37). -/
def doubledRepeats (i : Nat) (p : Part) : Part :=
  match p.record i with
  | some r => if r.doubled && r.repeatTimer.isSome then repeatEnds i r p else p
  | none => p

/-- DOUBLED_REPEAT (R8). -/
def execDoubledRepeat (record : Nat) (s : State) : Host.Outcome State Fault Refusal := s.perform (doubledRepeats record)

/-! ### The Departure Unit -/

/-- An award's limit expires (R155). -/
def awardExpires (slot : Nat) (p : Part) : Part :=
  match p.awardOfSlot slot with
  | some a => if a.timer.isSome then settle (missAward a p) else p
  | none => p

/-- AWARD_TIMER_EXPIRY (R155). -/
def execAwardTimerExpiry (slot : Nat) (s : State) : Host.Outcome State Fault Refusal := s.perform (awardExpires slot)

/-- A dig's limit expires (R171). -/
def digExpires (lane : Nat) (p : Part) : Part :=
  match p.digOf lane with
  | some d => if d.timer.isSome then settle (giveUp d .digLimit p) else p
  | none => p

/-- DIG_TIMER_EXPIRY (R171). -/
def execDigTimerExpiry (lane : Nat) (s : State) : Host.Outcome State Fault Refusal := s.perform (digExpires lane)

/-! ### The Yard Clock -/

/-- A minute boundary of a set clock is a tick; of an unset one nothing (R178; log entry 4). -/
def minutePasses (p : Part) : Part := if p.yc.isSet then pump (minuteTick p) else p

/-- MINUTE_TICK (R178). -/
def execMinuteTick (s : State) : Host.Outcome State Fault Refusal := s.perform minutePasses

end Sys2Proof.Machine
end

