-- ==== Sys2Proof/Machine/Turns.lean ====
section
/-! DEFINITION. The meanings of the service point's commands (chapter 6): approach reads, starts, ends, clears, the point and
level commands, NEXT, and the grant and overrun limits. -/

namespace Sys2Proof.Machine

/-! ### Approach reads (R104) -/

/-- A record becomes QUEUED and joins the tail of its level; its place timer stops (R104). DESIGN CHOICE (log entry 60): a
doubled record's repeat timer runs on, here and in every place at the point. -/
def joinQueue (i : Nat) (p : Part) : Part :=
  joinTail (p.levelOf i) i
    (modRecord i (fun r => { r with place := .queued, destination := none, placeTimer := none }) p)

/-- A record's place is the turn queue or a station of this point. -/
def PlaceState.atPoint (st : PlaceState) : Bool := st == .queued || st == .granted || st == .inService

/-- An EN_ROUTE record's destination is the service point (R11). -/
def Rec.toPoint (r : Rec) : Bool :=
  match r.place, r.destination with
  | .enRoute, some (.point _) => true
  | _, _ => false

/-- The approach read of a held record (R104). -/
def approachHeld (i : Nat) (r : Rec) (p : Part) : Part :=
  if r.toPoint then resolve (joinQueue i p)
  else if r.place.atPoint then queueReport (.approachRepeat r.fleet) p
  else queueReport (.approachUnexpected r.fleet (some r.place)) p

/-- An APPROACH READ is tested and processed (R98, R104). -/
def decideApproach (fleet : Nat) (p : Part) : Decision :=
  if p.ts.kind.isNone || !fleetOk fleet then .refused .range
  else
    match p.findFleet fleet with
    | none => .accepted .none (queueReport (.approachUnexpected fleet none) p)
    | some i =>
      match p.record i with
      | none => .accepted .none (queueReport (.approachUnexpected fleet none) p)
      | some r => .accepted .none (approachHeld i r p)

/-- APPROACH_READ (R104). -/
def execApproachRead (fleet : Nat) (s : State) : Host.Outcome State Fault Refusal :=
  s.perform (fieldMessage 4 (decideApproach fleet))

/-! ### Starts (R114 to R118) -/

/-- The level of a turn that starts: of the grant, of the request, or of a record that joins at its start (R116, R117). -/
def Part.startLevel (p : Part) (i : Nat) : Nat :=
  match p.stationOf i with
  | some (_, st) => st.level.getD (p.levelOf i)
  | none => (p.requestLevel i).getD (p.levelOf i)

/-- A record goes IN_SERVICE at station k at a level (R114). -/
def beginTurn (k : Nat) (st : Station) (i level : Nat) (p : Part) : Part :=
  let energy := (p.record i).bind (·.energy)
  putStation k
    { st with state := .inService, record := some i, fleet := p.fleetOf i, level := some level,
              startTag := p.yc.seconds, energyBefore := energy, timer := some p.ts.overrunLimit }
    (modRecord i (fun r => { r with place := .inService, destination := none, placeTimer := none })
      (removeRequest i p))

/-- The station that a started record was GRANTED at, another than k, becomes FREE (R116, R117). -/
def freeOther (k i : Nat) (p : Part) : Part :=
  match p.stationOf i with
  | some (m, st) => if m = k then p else putStation m (st.idle .free) p
  | none => p

/-- A GRANTED record that loses its station to another bus becomes QUEUED at the front of its level (R116, R118). -/
def displace (i : Nat) (p : Part) : Part :=
  if p.recordIs i .granted then joinFront (p.levelOf i) i (modRecord i (fun r => { r with place := .queued }) p) else p

/-- A record starts at station k (R115 to R117). DESIGN CHOICE (log entry 43): a station it was GRANTED at is blanked before
station k shows SERVING. -/
def startRecord (k : Nat) (st : Station) (i : Nat) (p : Part) : Part :=
  let level := p.startLevel i
  let fleet := p.fleetOf i
  match st.state, st.record with
  | .granted, some x =>
    if x = i then beginTurn k st i level p
    else
      resolve <| queueReport (.wrongBus k fleet (p.fleetOf x)) <| displace x <|
        beginTurn k st i level (freeOther k i p)
  | _, _ =>
    let wasGranted := p.recordIs i .granted
    let q := queueReport (.unscheduledStart k fleet) (beginTurn k st i level (freeOther k i p))
    if wasGranted then resolve q else q

/-- A foreign start (R118). -/
def startForeign (k : Nat) (st : Station) (fleet : Nat) (p : Part) : Part :=
  let q := putStation k
    { st with state := .inService, record := none, fleet := fleet, level := none, startTag := p.yc.seconds,
              energyBefore := none, timer := some p.ts.overrunLimit } p
  let report : Report := .foreignStart k fleet (p.placeOfFleet fleet)
  match st.state, st.record with
  | .granted, some x => resolve (queueReport report (displace x q))
  | _, _ => queueReport report q

/-- The record that a start names: one EN_ROUTE to the point, QUEUED or GRANTED (R114). -/
def Part.startNames (p : Part) (fleet : Nat) : Option Nat :=
  (p.findFleet fleet).bind fun i => (p.record i).bind fun r => if r.inQueue then some i else none

/-- A STATION START is tested and processed (R114). -/
def decideStart (k fleet : Nat) (p : Part) : Decision :=
  match p.station k with
  | none => .refused .range
  | some st =>
    if !fleetOk fleet then .refused .range
    else if st.state == .fault || st.state == .inService then .refused .state
    else
      match p.startNames fleet with
      | some i =>
        if p.serveable st i then .accepted .none (startRecord k st i p) else .refused .state
      | none => .accepted .none (startForeign k st fleet p)

/-- STATION_START (R114 to R118). -/
def execStationStart (station fleet : Nat) (s : State) : Host.Outcome State Fault Refusal :=
  s.perform (fieldMessage 5 (decideStart station fleet))

/-! ### The end of a turn (R119 to R124) -/

/-- An outcome is written into its record and reported (R123). -/
def writeOutcome (i : Nat) (o : TurnOutcome) (p : Part) : Part :=
  queueReport (.turnOutcome (p.fleetOf i) o) (modRecord i (fun r => { r with outcome := some o }) p)

/-- A record leaves the point: SERVED, and its next call is decided (R124, R13). -/
def leavePoint (i : Nat) (p : Part) : Part :=
  let q := modRecord i (fun r => { r with place := .served, destination := none, lapses := 0, retries := 0 }) p
  match p.ts.kind with
  | some .wash => route i (fun _ => .berth) q
  | _ => route i q.fuelOverChoice q

/-- After a station fault or an overrun a record is retry-marked where its retry limit and the queue allow it, else it is
SERVED (R120). DESIGN CHOICE (log entry 44): RETRY_NO_PLACE is queued only where the retry limit allows a retry. -/
def retryOrServe (i level : Nat) (p : Part) : Part :=
  match p.record i with
  | none => p
  | some r =>
    if r.retries < p.ts.retryLimit then
      if p.queuePlaces < 16 then
        joinRetry level i (modRecord i (fun r => { r with place := .queued, retries := r.retries + 1 }) p)
      else leavePoint i (queueReport (.retryNoPlace r.fleet) p)
    else leavePoint i p

/-- What a NORMAL end changes in the record (R119). -/
def Rec.afterNormal (kind : Option ServiceKind) (energy : Option Nat) (r : Rec) : Rec :=
  match kind with
  | some .wash => { r with washed := true }
  | _ => { r with energy := if energy.isSome then energy else r.energy }

/-- The priority order turned until a level stands last (R107). -/
def rotateTo (level : Nat) (order : List Nat) : List Nat :=
  (order.dropWhile (· != level)).drop 1 ++ order.takeWhile (· != level) ++ order.filter (· == level)

/-- A NORMAL end turns the priority order in ROTATING mode (R107). -/
def rotateOrder (level : Nat) (p : Part) : Part :=
  if p.ts.rotating then { p with ts := { p.ts with order := rotateTo level p.ts.order } } else p

/-- The outcome of a station's turn at its end (R123). -/
def Part.turnOutcome (p : Part) (k : Nat) (st : Station) (i : Nat) (e : EndKind) : TurnOutcome :=
  { service := p.ts.kind.getD .fuel, station := k, level := st.level.getD 0, startTag := some st.startTag,
    endTag := p.yc.seconds, endKind := e,
    retriesUsed := match p.record i with
      | some r => r.retries
      | none => 0
    energyBefore := st.energyBefore, energyAfter := (p.record i).bind (·.energy) }

/-- The state of a station after an end kind (R119, R121). -/
def EndKind.stationAfter : EndKind → StationState
  | .stationFault | .overrun => .fault
  | _ => .free

/-- The end of a turn with a record, in R119's order. -/
def endTurn (k : Nat) (st : Station) (i : Nat) (e : EndKind) (energy : Option Nat) (p : Part) : Part :=
  let level := st.level.getD 0
  let q := if e == .normal then modRecord i (Rec.afterNormal p.ts.kind energy) p else p
  let q := writeOutcome i (q.turnOutcome k st i e) q
  let q := if e.stationAfter == .fault then retryOrServe i level q else leavePoint i q
  let q := if e == .normal then rotateOrder level q else q
  -- the guidance line is the display's own: what stands in it now is kept
  resolve (match q.station k with
    | some now => putStation k (now.idle e.stationAfter) q
    | none => q)

/-- The end of a foreign turn (R119, R121). -/
def endForeign (k : Nat) (st : Station) (e : EndKind) (energy : Option Nat) (p : Part) : Part :=
  let q := queueReport (.foreignEnd k st.fleet e st.startTag p.yc.seconds energy) (putStation k (st.idle e.stationAfter) p)
  if e.stationAfter == .free then resolve q else q

/-- An end that names another bus than the station's record is reported (R119). -/
def noteMismatch (k carried fleet : Nat) (p : Part) : Part :=
  if carried = fleet then p else queueReport (.endMismatch k carried fleet) p

/-- A station's end, by the station's state (R119). DESIGN CHOICE (log entry 51): END_MISMATCH is queued before the outcome. -/
def stationEnds (k : Nat) (st : Station) (fleet : Nat) (e : EndKind) (energy : Option Nat) (p : Part) : Part :=
  if st.state == .inService then
    match st.record with
    | none => endForeign k st e energy p
    | some i => endTurn k st i e energy (noteMismatch k st.fleet fleet p)
  else queueReport (.strayEnd k fleet e) p

/-- The three end kinds that a STATION END carries (R119). -/
def readStationEnd : Nat → Option EndKind
  | 0 => some .normal
  | 1 => some .busFault
  | 2 => some .stationFault
  | _ => none

/-- A STATION END is tested and processed (R119). -/
def decideEnd (k fleet endKind energy : Nat) (p : Part) : Decision :=
  match p.station k, readStationEnd endKind with
  | some st, some e => .accepted .none (settle (stationEnds k st fleet e (readEnergy energy) p))
  | _, _ => .refused .range

/-- STATION_END (R119, R120). -/
def execStationEnd (station fleet endKind energy : Nat) (s : State) : Host.Outcome State Fault Refusal :=
  s.perform (fieldMessage 6 (decideEnd station fleet endKind energy))

/-- A STATION CLEAR is tested and processed (R122). -/
def decideClear (k : Nat) (p : Part) : Decision :=
  match p.station k with
  | none => .refused .range
  | some st =>
    if st.state == .fault then .accepted .none (resolve (putStation k { st with state := .free } p))
    else .refused .state

/-- STATION_CLEAR (R122). -/
def execStationClear (station : Nat) (s : State) : Host.Outcome State Fault Refusal :=
  s.perform (fieldMessage 7 (decideClear station))

/-! ### Point and level commands (R98, R99, R108, R110) -/

/-- A command of the point is refused with RANGE while there is none (R98). -/
def withPoint (act : Part → Decision) (p : Part) : Decision := if p.ts.kind.isSome then act p else .refused .range

/-- The point becomes OPEN; resolution runs where it was CLOSED (R99). -/
def openPoint (p : Part) : Part :=
  if p.ts.opened then p else resolve { p with ts := { p.ts with opened := true } }

/-- POINT_OPEN (R99). -/
def execPointOpen (s : State) : Host.Outcome State Fault Refusal :=
  s.perform (fieldMessage 8 (withPoint fun p => .accepted .none (openPoint p)))

/-- The point becomes CLOSED (R99). -/
def closePoint (p : Part) : Part := { p with ts := { p.ts with opened := false } }

/-- POINT_CLOSE (R99). -/
def execPointClose (s : State) : Host.Outcome State Fault Refusal :=
  s.perform (fieldMessage 9 (withPoint fun p => .accepted .none (closePoint p)))

/-- A level is marked held (R108). -/
def holdLevel (level : Nat) (p : Part) : Part :=
  if p.levelHeld level then p else { p with ts := { p.ts with heldLevels := p.ts.heldLevels ++ [level] } }

/-- LEVEL_HOLD (R108): a level above 7 is taken as 7 (R185). -/
def execLevelHold (level : Nat) (s : State) : Host.Outcome State Fault Refusal :=
  s.perform (fieldMessage 10 (withPoint fun p => .accepted .none (holdLevel (min level 7) p)))

/-- A level's mark is cleared, and resolution runs (R108). -/
def releaseLevel (level : Nat) (p : Part) : Part :=
  if p.levelHeld level then resolve { p with ts := { p.ts with heldLevels := p.ts.heldLevels.filter (· != level) } } else p

/-- LEVEL_RELEASE (R108): a level above 7 is taken as 7 (R185). -/
def execLevelRelease (level : Nat) (s : State) : Host.Outcome State Fault Refusal :=
  s.perform (fieldMessage 11 (withPoint fun p => .accepted .none (releaseLevel (min level 7) p)))

/-- The stations that answer a NEXT for a group: those of a fuel kind at a FUEL point; at a WASH point all of them, in the D
group (R110, section 12.5). -/
def Part.groupStations (p : Part) (fuel : FuelKind) : List Station :=
  match p.ts.kind with
  | some .wash => if fuel == .d then p.ts.stations else []
  | _ => p.ts.stations.filter fun st => st.fuel == some fuel

/-- What a NEXT answers for a group: the fleet number that resolution would choose, 0 for none, and the number of FREE
stations (R110). -/
def Part.nextOf (p : Part) (fuel : FuelKind) : Nat × Nat :=
  let group := p.groupStations fuel
  let fleet := match group.head?.bind p.choose with
    | some (i, _) => p.fleetOf i
    | none => 0
  (fleet, group.countP fun st => st.state == .free)

/-- The answer to a NEXT (R110). -/
def nextPayload (p : Part) : Payload :=
  .next p.ts.opened (p.nextOf .d).1 (p.nextOf .d).2 (p.nextOf .g).1 (p.nextOf .g).2

/-- NEXT (R110). -/
def execNextRequest (s : State) : Host.Outcome State Fault Refusal :=
  s.perform (fieldMessage 12 (withPoint fun p => .accepted (nextPayload p) p))

/-! ### The limits (R113, R121) -/

/-- A second lapse ends the turn LAPSED (R113, R123). -/
def lapseOut (k : Nat) (st : Station) (i : Nat) (p : Part) : Part :=
  leavePoint i (writeOutcome i { p.turnOutcome k st i .lapsed with
    startTag := none, energyBefore := (p.record i).bind (·.energy) } p)

/-- After its first lapse a GRANTED record is QUEUED at the tail of its level (R113). -/
def requeue (i : Nat) (p : Part) : Part :=
  if p.recordIs i .granted then joinTail (p.levelOf i) i (modRecord i (fun r => { r with place := .queued }) p) else p

/-- A grant lapses (R113). -/
def lapse (k : Nat) (st : Station) (i : Nat) (p : Part) : Part :=
  let q := modRecord i (fun r => { r with lapses := r.lapses + 1 }) (putStation k (st.idle .free) p)
  let n := match q.record i with
    | some r => r.lapses
    | none => 0
  let q := if n < 2 then requeue i q else lapseOut k st i q
  settle (resolve (queueReport (.lapse k st.fleet n) q))

/-- A station's grant limit expires (R113). -/
def grantExpires (k : Nat) (p : Part) : Part :=
  match p.station k with
  | none => p
  | some st =>
    match st.record with
    | some i => if st.state == .granted && st.timer.isSome then lapse k st i p else p
    | none => p

/-- GRANT_LIMIT_EXPIRY (R113). -/
def execGrantLimitExpiry (station : Nat) (s : State) : Host.Outcome State Fault Refusal :=
  s.perform (grantExpires station)

/-- A station's overrun limit expires (R121). DESIGN CHOICE (log entry 52): the FOREIGN_END of an overrun carries no energy. -/
def overrunExpires (k : Nat) (p : Part) : Part :=
  match p.station k with
  | none => p
  | some st =>
    if st.state == .inService && st.timer.isSome then
      match st.record with
      | some i => settle (endTurn k st i .overrun none p)
      | none => endForeign k st .overrun none p
    else p

/-- OVERRUN_LIMIT_EXPIRY (R121). -/
def execOverrunLimitExpiry (station : Nat) (s : State) : Host.Outcome State Fault Refusal :=
  s.perform (overrunExpires station)

end Sys2Proof.Machine
end

