-- ==== Sys2Proof/Machine/Dispatch.lean ====
section
/-! DEFINITION. The meaning of each command: one arm per constructor of `Instr`. -/

namespace Sys2Proof.Machine

/-- A command's effect on everything but the queue. -/
def exec (i : Instr) (s : State) : Host.Outcome State Fault Refusal :=
  match i with
  | .powerOnReset straps => Sys2Proof.Machine.execPowerOnReset straps s
  | .externalReset straps => Sys2Proof.Machine.execExternalReset straps s
  | .config body => Sys2Proof.Machine.execConfig body s
  | .gateArrival tag => Sys2Proof.Machine.execGateArrival tag s
  | .laneEntryRead lane side tag => Sys2Proof.Machine.execLaneEntryRead lane side tag s
  | .laneExitRead lane readerEnd fleet => Sys2Proof.Machine.execLaneExitRead lane readerEnd fleet s
  | .approachRead fleet => Sys2Proof.Machine.execApproachRead fleet s
  | .stationStart station fleet => Sys2Proof.Machine.execStationStart station fleet s
  | .stationEnd station fleet endKind energy => Sys2Proof.Machine.execStationEnd station fleet endKind energy s
  | .stationClear station => Sys2Proof.Machine.execStationClear station s
  | .pointOpen => Sys2Proof.Machine.execPointOpen s
  | .pointClose => Sys2Proof.Machine.execPointClose s
  | .levelHold level => Sys2Proof.Machine.execLevelHold level s
  | .levelRelease level => Sys2Proof.Machine.execLevelRelease level s
  | .nextRequest => Sys2Proof.Machine.execNextRequest s
  | .laneHold lane => Sys2Proof.Machine.execLaneHold lane s
  | .laneOpen lane => Sys2Proof.Machine.execLaneOpen lane s
  | .census lane lines => Sys2Proof.Machine.execCensus lane lines s
  | .clearCounters => Sys2Proof.Machine.execClearCounters s
  | .clearLost => Sys2Proof.Machine.execClearLost s
  | .statusRequest => Sys2Proof.Machine.execStatusRequest s
  | .malformedMessage kind => Sys2Proof.Machine.execMalformedMessage kind s
  | .inputOverflow => Sys2Proof.Machine.execInputOverflow s
  | .linkByteDiscarded => Sys2Proof.Machine.execLinkByteDiscarded s
  | .messageGapTimeout kind => Sys2Proof.Machine.execMessageGapTimeout kind s
  | .outputLineFree => Sys2Proof.Machine.execOutputLineFree s
  | .timeMarkReceived frame => Sys2Proof.Machine.execTimeMarkReceived frame s
  | .slotCallReceived frame => Sys2Proof.Machine.execSlotCallReceived frame s
  | .berthCallReceived frame => Sys2Proof.Machine.execBerthCallReceived frame s
  | .fuelCallReceived frame => Sys2Proof.Machine.execFuelCallReceived frame s
  | .washCallReceived frame => Sys2Proof.Machine.execWashCallReceived frame s
  | .whereaboutsReceived frame => Sys2Proof.Machine.execWhereaboutsReceived frame s
  | .offerReceived frame => Sys2Proof.Machine.execOfferReceived frame s
  | .transferReceived frame => Sys2Proof.Machine.execTransferReceived frame s
  | .releaseReceived frame => Sys2Proof.Machine.execReleaseReceived frame s
  | .heldReceived frame => Sys2Proof.Machine.execHeldReceived frame s
  | .departNoticeReceived frame => Sys2Proof.Machine.execDepartNoticeReceived frame s
  | .queryReceived frame => Sys2Proof.Machine.execQueryReceived frame s
  | .statusFrameReceived frame => Sys2Proof.Machine.execStatusFrameReceived frame s
  | .nodeClaimReceived frame => Sys2Proof.Machine.execNodeClaimReceived frame s
  | .unusedKindFrame frame => Sys2Proof.Machine.execUnusedKindFrame frame s
  | .flawedFrameReceived frame => Sys2Proof.Machine.execFlawedFrameReceived frame s
  | .transmitStart => Sys2Proof.Machine.execTransmitStart s
  | .windowFirstBit otherStarts => Sys2Proof.Machine.execWindowFirstBit otherStarts s
  | .lostContention => Sys2Proof.Machine.execLostContention s
  | .echoFault bit => Sys2Proof.Machine.execEchoFault bit s
  | .ownFrameVerdict slots endBits => Sys2Proof.Machine.execOwnFrameVerdict slots endBits s
  | .joiningComplete => Sys2Proof.Machine.execJoiningComplete s
  | .lineLost => Sys2Proof.Machine.execLineLost s
  | .lostEnd => Sys2Proof.Machine.execLostEnd s
  | .standDownExpiry => Sys2Proof.Machine.execStandDownExpiry s
  | .listeningPeriodExpiry => Sys2Proof.Machine.execListeningPeriodExpiry s
  | .confirmPeriodExpiry => Sys2Proof.Machine.execConfirmPeriodExpiry s
  | .spacingTimerExpiry => Sys2Proof.Machine.execSpacingTimerExpiry s
  | .exchangeWaitExpiry exchange => Sys2Proof.Machine.execExchangeWaitExpiry exchange s
  | .reservationTimeout caller exchange => Sys2Proof.Machine.execReservationTimeout caller exchange s
  | .questionWaitExpiry record => Sys2Proof.Machine.execQuestionWaitExpiry record s
  | .answerTimerExpiry record => Sys2Proof.Machine.execAnswerTimerExpiry record s
  | .answerWaitExpiry record => Sys2Proof.Machine.execAnswerWaitExpiry record s
  | .noticeWaitExpiry => Sys2Proof.Machine.execNoticeWaitExpiry s
  | .whereaboutsMemoryExpiry fleet asker => Sys2Proof.Machine.execWhereaboutsMemoryExpiry fleet asker s
  | .inboundLimitExpiry record => Sys2Proof.Machine.execInboundLimitExpiry record s
  | .looseLimitExpiry record => Sys2Proof.Machine.execLooseLimitExpiry record s
  | .apronRepeat record => Sys2Proof.Machine.execApronRepeat record s
  | .doubledRepeat record => Sys2Proof.Machine.execDoubledRepeat record s
  | .gateHoldExpiry => Sys2Proof.Machine.execGateHoldExpiry s
  | .grantLimitExpiry station => Sys2Proof.Machine.execGrantLimitExpiry station s
  | .overrunLimitExpiry station => Sys2Proof.Machine.execOverrunLimitExpiry station s
  | .awardTimerExpiry slot => Sys2Proof.Machine.execAwardTimerExpiry slot s
  | .digTimerExpiry lane => Sys2Proof.Machine.execDigTimerExpiry lane s
  | .minuteTick => Sys2Proof.Machine.execMinuteTick s

end Sys2Proof.Machine
end

