-- ==== Sys2Proof/Machine/Ticks.lean ====
section
/-! DEFINITION. What the part's own time base does while no command waits (section 1.6): which timer has run out, what the
bits of an idle line bring, and the passing of one millisecond (log entry 1). -/

namespace Sys2Proof.Machine

/-- A timer has run out. -/
def due (t : Option Nat) : Bool := t == some 0

/-- What the bits read bring (R39): a stuck line, the end of JOINING or of LOST, a window's first bit at which nothing else
starts, and the start of a waiting frame (R43, R50, R53, R55). A gap ends within a millisecond, so no millisecond passes
before these (log entry 1). -/
def Part.dueBits (p : Part) : Option Instr :=
  if p.lif.lineState.losable && 256 ≤ p.lif.stuck then some .lineLost
  else if p.lif.lineState == .joining && 64 ≤ p.lif.quiet then some .joiningComplete
  else if p.lif.lineState == .lost && 64 ≤ p.lif.quiet then some .lostEnd
  else if p.lif.window.cond == .pending && p.lif.rx.isEmpty then some (.windowFirstBit false)
  else if p.starting.isSome then some .transmitStart
  else none

/-- What the Line Interface does next: what the bits read bring, then its timers (R54, R57, R58). -/
def Part.dueLine (p : Part) : Option Instr :=
  if p.dueBits.isSome then p.dueBits
  else if p.lif.lineState == .mute && due p.lif.standDown then some .standDownExpiry
  else if p.lif.lineState == .claiming && due p.lif.claim.timer then
    some (if p.lif.claim.number.isNone then .listeningPeriodExpiry else .confirmPeriodExpiry)
  else none

/-- The Exchange Engine's timers (R65, R66, R68, R76, R79, R81, R84). -/
def Part.dueEngine (p : Part) : List Instr :=
  (if due p.xe.spacing then [.spacingTimerExpiry] else [])
    ++ (p.xe.exchanges.filter fun e => due e.wait).map (fun e => .exchangeWaitExpiry e.id)
    ++ (p.xe.reservations.filter fun r => due r.timer).map (fun r => .reservationTimeout r.caller r.callId)
    ++ (p.xe.questions.filter fun q => due q.wait).map (fun q => .questionWaitExpiry q.record)
    ++ (p.xe.questions.filter fun q => q.state == .asked && due q.answerTimer).map (fun q => .answerTimerExpiry q.record)
    ++ (p.xe.answers.filter fun a => due a.wait).map (fun a => .answerWaitExpiry a.record)
    ++ (p.xe.memory.filter fun m => due m.expiry).map (fun m => .whereaboutsMemoryExpiry m.fleet m.asker)
    ++ (if due p.xe.noticeWait then [.noticeWaitExpiry] else [])

/-- The record timers of the record at index i (R8, R11, R12, R14). -/
def Part.dueRecord (p : Part) (i : Nat) : Option Instr :=
  match p.record i with
  | none => none
  | some r =>
    if due r.placeTimer && r.place == .enRoute then some (.inboundLimitExpiry i)
    else if due r.placeTimer && r.place == .loose then some (.looseLimitExpiry i)
    else if due r.repeatTimer && r.place == .apron then some (.apronRepeat i)
    else if due r.repeatTimer && r.doubled then some (.doubledRepeat i)
    else none

/-- The timer of station k (R113, R121). -/
def Part.dueStation (p : Part) (k : Nat) : Option Instr :=
  match p.station k with
  | none => none
  | some st =>
    if !due st.timer then none
    else if st.state == .granted && st.record.isSome then some (.grantLimitExpiry k)
    else if st.state == .inService then some (.overrunLimitExpiry k)
    else none

/-- The Intake Unit's and the Departure Unit's timers (R94, R155, R171). -/
def Part.dueUnits (p : Part) : List Instr :=
  (if p.holding && due p.iu.holdTimer then [.gateHoldExpiry] else [])
    ++ (p.du.awards.filter fun a => due a.timer).map (fun a => .awardTimerExpiry a.slot)
    ++ (p.du.digs.filter fun d => due d.timer).map (fun d => .digTimerExpiry d.lane)

/-- The expiry that is taken next, where a timer has run out. -/
def Part.dueNext (p : Part) : Option Instr :=
  match p.dueLine, p.dueEngine, (List.range Config.recordSlots).findSome? p.dueRecord,
      p.stationNumbers.findSome? p.dueStation, p.dueUnits with
  | some c, _, _, _, _ => some c
  | none, c :: _, _, _, _ => some c
  | none, [], some c, _, _ => some c
  | none, [], none, some c, _ => some c
  | none, [], none, none, c :: _ => some c
  | none, [], none, none, [] => none

/-- One millisecond passes: every timer, and the clock where that millisecond is no minute boundary of a set clock, which is a
MINUTE_TICK. -/
def passMillisecond (p : Part) : Part := if p.tickNext then tickTimers p else advanceClock (tickTimers p)

end Sys2Proof.Machine
end

