-- ==== Sys2Proof/Machine/Step.lean ====
section
/-! DEFINITION. One step: the command at the front of the queue, or, with none waiting, the part's own time (log entries 1
and 28). -/

namespace Sys2Proof.Machine

/-- With no command waiting: an expiry that is due, else a millisecond, with the minute tick that falls in it (section 1.6,
R178; log entry 1). -/
def idle (s : State) : Host.Outcome State Fault Refusal :=
  match s.dueNext with
  | some c => exec c s
  | none =>
    let t : State := { s with toPart := passMillisecond s.toPart }
    if s.tickNext then exec .minuteTick t else .next t

/-- One step of the machine. -/
def step (s : State) : Host.Outcome State Fault Refusal :=
  match s.pending with
  | [] => idle s
  | c :: rest => exec c { s with pending := rest }

/-- The command that a word spells is put at the front of the queue; the table gives no row bits, so no word spells one
(log entry 28). -/
def State.withFetchWord (s : State) (nbits w : Nat) : State :=
  match Sys2Proof.decodeTableWord nbits w with
  | some c => { s with pending := c :: s.pending }
  | none => s

end Sys2Proof.Machine
end

