-- ==== Sys2Proof/Safety.lean ====
section
/-! DEFINITION. What a claim means by a safe run: the bounds that the spec gives the part's lists and counters, what the
settings lock covers, and what the review that ends a command leaves as it was. -/

namespace Sys2Proof.Machine

/-! ### The bounds of the part's lists and counters -/

/-- The Field Port's lists and counters are within the bounds of R184, R186, R187 and R183. -/
structure FieldPort.Bounded (f : FieldPort) : Prop where
  replies : f.replies.length ≤ 2
  outputs : f.outputs.length ≤ 64
  reports : f.reports.length ≤ 32
  dropped : f.dropped ≤ 65535
  overflow : f.overflow ≤ 65535
  linkErrors : f.linkErrors ≤ 65535
  outputDropped : f.outputDropped ≤ 65535

/-- The six fault counters are within the bound of R61. -/
structure Counters.Bounded (c : Counters) : Prop where
  checkFailures : c.checkFailures ≤ 65535
  flawsSignalled : c.flawsSignalled ≤ 65535
  echoFaults : c.echoFaults ≤ 65535
  ownFailures : c.ownFailures ≤ 65535
  lostContentions : c.lostContentions ≤ 65535
  numberClashes : c.numberClashes ≤ 65535

/-- The Exchange Engine's lists are within the bounds of R63; each exchange has an entry of the table, 0 to 3, to itself. -/
structure ExchangeEngine.Bounded (x : ExchangeEngine) : Prop where
  entries : ∀ e ∈ x.exchanges, e.id < 4
  distinct : (x.exchanges.map (·.id)).Nodup
  reservations : x.reservations.length ≤ 4
  answers : x.answers.length ≤ 8
  memory : x.memory.length ≤ 4
  notices : x.notices.length ≤ 8
  statusList : x.statusList.length ≤ 4

/-- The clock is within a day (R177). -/
structure YardClock.Bounded (c : YardClock) : Prop where
  seconds : c.seconds < 86400
  partMs : c.partMs < 1000

/-- The bounds together; the store has its 96 slots (R2), and the consecutive counts stay below the counts at which the node
goes MUTE (R48, R49, R54). -/
structure Part.Bounded (p : Part) : Prop where
  store : p.rs.store.length = Config.recordSlots
  failures : p.lif.consecutiveFailures ≤ 6
  flaws : p.lif.consecutiveFlaws ≤ 32
  counters : p.lif.counters.Bounded
  engine : p.xe.Bounded
  clock : p.yc.Bounded
  port : p.fp.Bounded

/-! ### What the yard holds -/

/-- No two records have one fleet number (R4). -/
def Part.FleetsDiffer (p : Part) : Prop :=
  ∀ i j r q, p.record i = some r → p.record j = some q → r.fleet = q.fleet → i = j

/-- The claims on every lane are within its length and its twelve places (R20, R21), the length being one a CONFIG gives. -/
def Part.LanesHold (p : Part) : Prop :=
  ∀ n l, p.lane n = some l → 4 ≤ l.length ∧ p.unitsUsed n ≤ l.length ∧ p.placesInUse n ≤ 12

/-- At most two digs run, each in a lane of its own that is in DIG (R163, R164). -/
structure Part.DigsHold (p : Part) : Prop where
  atMostTwo : p.du.digs.length ≤ 2
  lanesInDig : p.lanesInDig ≤ 2
  distinct : (p.du.digs.map (·.lane)).Nodup
  inDig : ∀ d ∈ p.du.digs, ∃ l, p.lane d.lane = some l ∧ l.state = .dig

/-- The yard within its capacities: 96 records and reservations (R2), 16 queue places (R102), 8 awards and bids (R149, R151),
two digs, and every lane. -/
structure Part.WithinCapacity (p : Part) : Prop where
  records : p.recordCount ≤ 96
  queue : p.queuePlaces ≤ 16
  awards : p.awardPlaces ≤ 8
  digs : p.DigsHold
  lanes : p.LanesHold
  fleets : p.FleetsDiffer

/-! ### The settings lock (R191) -/

/-- What a CONFIG fixes of a lane. -/
def Lane.configured (l : Lane) : Nat × LaneType × Nat × Nat × Fallback := (l.laneAlias, l.type, l.length, l.weight, l.fallback)

/-- What a CONFIG fixes of the service point: kind, rotation mode, retry limit, grant limit, overrun limit, and each
station's fuel kind. -/
def TurnScheduler.configured (t : TurnScheduler) : Option ServiceKind × Bool × Nat × Nat × Nat × List (Option FuelKind) :=
  (t.kind, t.rotating, t.retryLimit, t.grantLimit, t.overrunLimit, t.stations.map (·.fuel))

/-- The settings that q holds are those of p. -/
structure SameSettings (p q : Part) : Prop where
  settings : q.settings = p.settings
  bitRate : q.lif.bitRate = p.lif.bitRate
  gate : q.iu.gatePresent = p.iu.gatePresent
  lanes : q.lm.lanes.map Lane.configured = p.lm.lanes.map Lane.configured
  point : q.ts.configured = p.ts.configured

/-- A power-on or an external reset. -/
def isReset : Instr → Bool
  | .powerOnReset _ | .externalReset _ => true
  | _ => false

/-! ### The fault counters (R61) -/

/-- No fault counter is lower in d than in c. -/
structure Counters.Le (c d : Counters) : Prop where
  checkFailures : c.checkFailures ≤ d.checkFailures
  flawsSignalled : c.flawsSignalled ≤ d.flawsSignalled
  echoFaults : c.echoFaults ≤ d.echoFaults
  ownFailures : c.ownFailures ≤ d.ownFailures
  lostContentions : c.lostContentions ≤ d.lostContentions
  numberClashes : c.numberClashes ≤ d.numberClashes

/-! ### Field messages (R184, R185) -/

/-- A receive place is free (R184). -/
def State.receives (s : State) : Prop := s.fp.replies.length < 2

/-- The kind of the field message that a command is (section 12.5), as far as one is read. -/
def messageKind : Instr → Option Nat
  | .config _ => some 1
  | .gateArrival _ => some 2
  | .laneEntryRead .. | .laneExitRead .. => some 3
  | .approachRead _ => some 4
  | .stationStart .. => some 5
  | .stationEnd .. => some 6
  | .stationClear _ => some 7
  | .pointOpen => some 8
  | .pointClose => some 9
  | .levelHold _ => some 10
  | .levelRelease _ => some 11
  | .nextRequest => some 12
  | .laneHold _ => some 13
  | .laneOpen _ => some 14
  | .census .. => some 15
  | .clearCounters => some 16
  | .clearLost => some 17
  | .statusRequest => some 18
  | .malformedMessage kind | .messageGapTimeout kind => some kind
  | _ => none

/-- The state with one more reply waiting, and nothing else changed. -/
def State.replied (s : State) (kind : Nat) (refused : Option Reason) (payload : Payload) : State :=
  { s with fp := { s.fp with replies := s.fp.replies ++ [{ kind := kind, refused := refused, payload := payload }] } }

/-! ### The line's bits (R39) -/

/-- The length of the run of recessive bits that ends a list of bits. -/
def recessiveRun (bits : List Bool) : Nat := (bits.reverse.takeWhile id).length

/-! ### Parts of a message and of the output queue -/

/-- The w bytes from offset o. -/
def slice (bytes : List Byte) (o w : Nat) : List Byte := (bytes.drop o).take w

/-- The output at position k drives the same head or display as a later one (R186). -/
def Superseded (outs : List Output) (k : Nat) : Prop :=
  ∃ j a b, k < j ∧ outs[k]? = some a ∧ outs[j]? = some b ∧ sameTarget a b = true

/-- A CONFIG_CLAMPED report where the value taken differs from the one carried (R190). -/
def clampedIf (name : SettingName) (part carried taken : Nat) : List Report :=
  if taken = carried then [] else [.configClamped name part carried taken]

/-! ### A node that hears a frame (R46, R47) -/

/-- The node is ACTIVE, drives no frame of its own, and its offer window is CLOSED. -/
structure State.Listens (s : State) : Prop where
  active : s.lif.lineState = .active
  idle : ∀ t, s.lif.tx = some t → t.sending = false
  shut : s.lif.window.cond = .closed

/-! ### What the review that ends a command leaves (log entry 10) -/

/-- A record without the fields that the review of awards, digs and calls may change: the award, the shunt flag, the call
attempts, the wanted call, and whether it is PARKED or AWARDED. -/
def Rec.standing (r : Rec) : Rec :=
  { r with
    place := if r.place = .awarded then .parked else r.place
    award := none
    shunt := false
    attempts := 0
    wanted := none
    lastCall := none }

/-- What the review may make of a record: its standing stays, and it may lose its award but gain none. -/
structure Rec.SettledTo (r q : Rec) : Prop where
  standing : q.standing = r.standing
  place : q.place = r.place ∨ q.place = .parked
  award : q.award = r.award ∨ q.award = none

/-- A lane without the fields that the review may change: its state and its aspects. -/
def Lane.standing (l : Lane) : Lane := { l with state := .opened, computed := .stop, displayed := .stop }

/-- What the review may make of a lane: a DIG may end, and its aspects are taken afresh. -/
structure Lane.SettledTo (l m : Lane) : Prop where
  standing : m.standing = l.standing
  state : m.state = l.state ∨ m.state = .opened

/-- Two optional values, both absent or both present and related. -/
inductive BothOrNone {α : Type} (rel : α → α → Prop) : Option α → Option α → Prop where
  | absent : BothOrNone rel none none
  | both {a b : α} (h : rel a b) : BothOrNone rel (some a) (some b)

/-- The Line Interface q differs from p at most in its transmit place. -/
def SameLine (p q : LineInterface) : Prop := q = { p with tx := q.tx }

/-- q differs from p at most in what the review that ends a command may change: awards and digs with their notices, calls
and answers, the transmit place, lane states and aspects, and outputs and reports. -/
structure SettledFrom (p q : Part) : Prop where
  settings : q.settings = p.settings
  identity : q.identity = p.identity
  records : ∀ i, BothOrNone Rec.SettledTo (p.record i) (q.record i)
  lanes : ∀ n, BothOrNone Lane.SettledTo (p.lane n) (q.lane n)
  line : SameLine p.lif q.lif
  reservations : q.xe.reservations = p.xe.reservations
  questions : q.xe.questions = p.xe.questions
  memory : q.xe.memory = p.xe.memory
  statusList : q.xe.statusList = p.xe.statusList
  spacing : q.xe.spacing = p.xe.spacing
  intake : q.iu = p.iu
  turns : q.ts = p.ts
  clock : q.yc = p.yc
  replies : q.fp.replies = p.fp.replies
  linkErrors : q.fp.linkErrors = p.fp.linkErrors
  overflow : q.fp.overflow = p.fp.overflow

/-- The yard as q holds it is that of p, but for what the review that ends a command may change: every record and lane, the
gate, the service point, the clock, the settings and the identity. -/
structure YardKept (p q : Part) : Prop where
  settings : q.settings = p.settings
  identity : q.identity = p.identity
  records : ∀ i, BothOrNone Rec.SettledTo (p.record i) (q.record i)
  lanes : ∀ n, BothOrNone Lane.SettledTo (p.lane n) (q.lane n)
  intake : q.iu = p.iu
  turns : q.ts = p.ts
  clock : q.yc = p.yc

/-- Every record but the one of index i is as it was, but for what the review may change. -/
def OtherRecordsKept (i : Nat) (p q : Part) : Prop := ∀ j, j ≠ i → BothOrNone Rec.SettledTo (p.record j) (q.record j)

/-- Every lane but lane n is as it was, but for what the review may change. -/
def OtherLanesKept (n : Nat) (p q : Part) : Prop := ∀ m, m ≠ n → BothOrNone Lane.SettledTo (p.lane m) (q.lane m)

/-- The settings, the identity and the clock are as they were. -/
structure SetupKept (p q : Part) : Prop where
  settings : q.settings = p.settings
  identity : q.identity = p.identity
  clock : q.yc = p.yc

/-! ### Words of the statements -/

/-- What both resets leave: nothing held, every count 0, BARRIER HOLD and then the RESET report waiting. -/
def ClearedByReset (straps : LinkRate) (external : Bool) (s t : State) : Prop :=
  t.pending = s.pending ∧ t.identity = s.identity ∧ t.settings = none
    ∧ (∀ i, t.record i = none) ∧ t.rs.wantedOrder = [] ∧ t.lm.lanes = []
    ∧ t.lif.lineState = .offline ∧ t.lif.bitRate = none ∧ t.lif.nodeNumber = 0 ∧ t.lif.tx = none ∧ t.lif.window = Window.shut
    ∧ t.lif.quiet = 0 ∧ t.lif.stuck = 0 ∧ t.lif.gap = 0 ∧ t.lif.lineBits = [] ∧ t.lif.rx = [] ∧ t.lif.droveAck = false ∧ t.lif.droveFlaw = false
    ∧ t.lif.claim = Claim.empty ∧ t.lif.claimAnswer = none ∧ t.lif.standDown = none ∧ t.lif.lineLost = false
    ∧ t.lif.consecutiveFailures = 0 ∧ t.lif.consecutiveFlaws = 0 ∧ t.lif.counters = Counters.zero
    ∧ t.xe.exchanges = [] ∧ t.xe.reservations = [] ∧ t.xe.questions = [] ∧ t.xe.answers = [] ∧ t.xe.memory = []
    ∧ t.xe.notices = [] ∧ t.xe.statusList = [] ∧ t.xe.spacing = none ∧ t.xe.noticeWait = none ∧ t.xe.timeMark = false
    ∧ t.iu.gatePresent = false ∧ t.iu.intake = none ∧ t.iu.holdTimer = none ∧ t.yc.washOpen = true
    ∧ t.ts.kind = none ∧ t.ts.stations = [] ∧ t.du.awards = [] ∧ t.du.digs = []
    ∧ t.fp.linkRate = straps ∧ t.fp.replies = [] ∧ t.fp.outputs = [.barrier false]
    ∧ t.fp.reports = [{ report := .reset external s.identity, tag := t.yc.seconds }]
    ∧ t.fp.dropped = 0 ∧ t.fp.overflow = 0 ∧ t.fp.linkErrors = 0 ∧ t.fp.outputDropped = 0

/-- A record holds what a tag carries. -/
def FromTag (t : Tag) (r : Rec) : Prop :=
  r.fleet = t.fleet ∧ r.fuel = t.fuel ∧ r.lengthClass = t.lengthClass ∧ r.serviceClass = t.serviceClass
    ∧ r.energy = t.energy ∧ r.washDue = t.washDue

/-- The first report that a command queued, where the queue had room. -/
def FirstReport (s u : State) (r : Report) : Prop :=
  s.fp.reports.length < 32 → u.fp.reports[s.fp.reports.length]? = some { report := r, tag := s.yc.seconds }

/-- The report that a command queued k reports after its first, where the queue had room for it. -/
def ReportAt (k : Nat) (s u : State) (r : Report) : Prop :=
  s.fp.reports.length + k < 32 →
    u.fp.reports[s.fp.reports.length + k]? = some { report := r, tag := s.yc.seconds }

/-- The frame in the transmit place was sent in ACTIVE and failed (R48), the count of failures in a row staying below its sixth. -/
structure State.OwnFrameFailed (s : State) (t : TxPlace) (slots : Slots) : Prop where
  active : s.lif.lineState = .active
  tx : s.lif.tx = some t
  sending : t.sending = true
  failed : t.abandoned = true ∨ slots.ack = false ∨ slots.flaw = true
  below : s.lif.consecutiveFailures < 5

/-- The frame in the transmit place was sent in ACTIVE and delivered (R48). -/
structure State.OwnFrameDelivered (s : State) (t : TxPlace) (slots : Slots) : Prop where
  active : s.lif.lineState = .active
  tx : s.lif.tx = some t
  sending : t.sending = true
  whole : t.abandoned = false
  ack : slots.ack = true
  flaw : slots.flaw = false

/-- An exchange of the routing rule's has ended without a placement (R14, R15, R72): a BERTH call's record is APRON with its repeat
timer running, and the gate that holds it lets it through; a FUEL or WASH call is repeated below the third failure, a WASH found
closed as BERTH; at the third the service is skipped and reported, and the next call made. `k` counts the reports that the command
queued before. -/
def ExchangeFailed (k : Nat) (e : Exchange) (s u : State) : Prop :=
  ∀ r : Rec, e.requester = .rs → e.id < 4 → (∀ x ∈ s.xe.exchanges, x.record = e.record → x.id = e.id) →
    s.record e.record = some r → r.shunt = false → r.lastCall = some e.kind → s.rs.wantedOrder = [] → s.du.digs = [] →
    ∃ r', u.record e.record = some r' ∧ r'.fleet = r.fleet
      ∧ OtherRecordsKept e.record s.toPart u.toPart ∧ SetupKept s.toPart u.toPart
      ∧ (e.kind = .berth →
        r'.place = .apron ∧ r'.attempts = r.attempts ∧ r'.repeatTimer = some (s.setting (·.repeatInterval))
        ∧ (∀ t, r.place = .intake → s.iu.intake = some t → t.record = e.record → s.fp.outputs.length ≤ 62 →
          u.iu = { s.iu with intake := none, holdTimer := none } ∧ .barrier true ∈ u.fp.outputs
          ∧ .guidance r.fleet .gate .apron .noBerth ∈ u.fp.outputs))
      ∧ (e.kind ≠ .berth → (r'.place = r.place ∨ (r.place = .awarded ∧ r'.place = .parked)) ∧ u.iu = s.iu
        ∧ ∃ x ∈ u.xe.exchanges, x.record = e.record ∧ x.requester = .rs ∧ x.closing = false
          ∧ (r.attempts + 1 < 3 →
            x.kind = (if e.kind = .wash ∧ s.yc.washOpen = false then .berth else e.kind)
            ∧ r'.attempts = (if e.kind = .wash ∧ s.yc.washOpen = false then 0 else r.attempts + 1))
          ∧ (3 ≤ r.attempts + 1 → e.kind = .fuel → r'.fuelSkipped = true ∧ r'.attempts = 0
            ∧ ReportAt k s u (.serviceSkipped r.fleet .fuel)
            ∧ x.kind = (if r.washDue = true ∧ r.washed = false ∧ r.washSkipped = false ∧ s.yc.washOpen = true
                        then .wash else .berth))
          ∧ (3 ≤ r.attempts + 1 → e.kind = .wash → r'.washSkipped = true ∧ r'.attempts = 0 ∧ x.kind = .berth
            ∧ ReportAt k s u (.serviceSkipped r.fleet .wash)))

/-- What a failed OFFER leaves of the window of a call (R51): below the call's limit the window is PENDING again with its reopen
count raised, and an offer is considered afresh (R67), a block naming it in the state in which only the reservations `kept` are
left; at the limit it is closed as failed, what was offered is released (R68), and an own exchange ends (R66). -/
def WindowAfterFailedOffer (c : WindowCall) (kept : List Reservation) (s u : State) : Prop :=
  let p : Part := { s.toPart with xe := { s.xe with reservations := kept } }
  (s.lif.window.reopens < c.limit →
    u.lif.window = { cond := .pending, call := some c, reopens := s.lif.window.reopens + 1 }
    ∧ YardKept s.toPart u.toPart
    ∧ (∀ o, p.named c = some o → p.refuses o.resource = false → p.recordCount < 96 → kept.length < 4 →
      s.lif.claimAnswer = none →
      u.xe.reservations = kept ++ [{ caller := c.caller, callId := c.callId, kind := c.kind, resource := o.resource,
                                     held := false, timer := none }]
      ∧ u.lif.tx = some
          { key := .offer
            frame := { kind := 6, cost := o.cost, node := s.lif.nodeNumber, item := o.item, addressee := 0
                       body := [byte c.caller, byte c.callId] ++ o.tail }
            census := false, sending := false, abandoned := false, stale := false, gone := false })
    ∧ (p.named c = none ∨ (∃ o, p.named c = some o ∧ p.refuses o.resource = true) ∨ 96 ≤ p.recordCount ∨ 4 ≤ kept.length
        ∨ s.lif.claimAnswer ≠ none →
      u.xe.reservations = kept))
  ∧ (c.limit ≤ s.lif.window.reopens →
    u.lif.window = Window.shut ∧ u.xe.reservations = kept.filter (·.held) ∧ SetupKept s.toPart u.toPart
    ∧ (s.windowExchange c = none → YardKept s.toPart u.toPart)
    ∧ ∀ e, s.windowExchange c = some e → ExchangeFailed 0 e s u)

/-- A claim of number n given up (R58), its heard set now `heard`: it counts as failed, its number joins the tried set where
`tried` says so, and below the eighth the lowest number left is claimed at once by a NODE CLAIM (R57); at the eighth, or with no
number left, NO_NUMBER is queued and the node listens anew with an empty claim state. -/
def ClaimGivenUp (tried : Bool) (n : Nat) (heard : List Nat) (s u : State) : Prop :=
  let c : Claim :=
    { heard := heard, tried := if tried then s.lif.claim.tried ++ [n] else s.lif.claim.tried, number := none
      failed := s.lif.claim.failed + 1, timer := none }
  u.lif.lineState = .claiming ∧ u.lif.nodeNumber = s.lif.nodeNumber
  ∧ (∀ m, c.failed < 8 → 1 ≤ m → m ≤ 31 → m ∉ c.heard → m ∉ c.tried →
    (∀ j, 1 ≤ j → j < m → j ∈ c.heard ∨ j ∈ c.tried) →
    u.lif.claim = { c with number := some m }
    ∧ u.lif.tx = some
        { key := .claim
          frame := { kind := 13, cost := 0, node := m, item := 127, addressee := 0
                     body := toBytes 3 s.identity.toNat ++ [byte 0] }
          census := false, sending := false, abandoned := false, stale := false, gone := false })
  ∧ (8 ≤ c.failed ∨ (∀ m, 1 ≤ m → m ≤ 31 → m ∈ c.heard ∨ m ∈ c.tried) →
    u.lif.claim = { heard := [], tried := [], number := none, failed := 0, timer := some 500 } ∧ u.lif.tx = none
    ∧ (s.fp.reports.length < 30 → ∃ q ∈ u.fp.reports.drop s.fp.reports.length, q.report = .noNumber))

/-- The lane entry of record i has been taken out without a read (R31): those ahead of it are unconfirmed. -/
def EntryTaken (i : Nat) (s u : State) : Prop :=
  ∀ n k l, s.entryOf i = some (n, k) → s.lane n = some l →
    ∃ l', u.lane n = some l'
      ∧ l'.entries = (l.entries.take k).map (fun e => { e with unconfirmed := true }) ++ l.entries.drop (k + 1)

/-- A TRANSFER that the node accepts and acts on (R46, R70): it carries the image m, and v is the HELD reservation it matches. -/
structure State.TakesTransfer (s : State) (f : RxFrame) (m : Image) (v : Reservation) : Prop where
  listens : s.Listens
  unflawed : f.flaw = false
  addressed : f.addressee = s.lif.nodeNumber
  numbered : s.lif.nodeNumber ≠ 0
  fits : frameFits 7 f.body = true
  image : decodeImage (f.body.drop 1) = some m
  reserved : s.reservation f.node (byteAt f.body 0) = some v
  held : v.held = true

/-- An image has been merged into a record (R5). -/
def Merged (m : Image) (r r' : Rec) : Prop :=
  r'.fleet = r.fleet ∧ r'.lengthClass = r.lengthClass ∧ r'.fuel = (if r.fuel = .unknown then m.fuel else r.fuel)
    ∧ r'.energy = m.energy ∧ r'.washed = m.washed ∧ r'.washDue = m.washDue ∧ r'.serviceClass = m.serviceClass
    ∧ r'.age = m.age ∧ r'.outcome = (if m.outcome = none then r.outcome else m.outcome)
    ∧ r'.stray = false ∧ r'.doubled = false ∧ r'.census = false

/-- A station that serves a turn of a fleet number from this moment. -/
def ServesFrom (st : Station) (fleet : Nat) (s : State) : Prop :=
  st.state = .inService ∧ st.fleet = fleet ∧ st.startTag = s.yc.seconds ∧ st.timer = some s.ts.overrunLimit

/-- The fleet number that a station's choice names, 0 for none. -/
def chosenFleet (s : State) (st : Station) : Nat :=
  match s.choose st with
  | some (i, _) => s.fleetOf i
  | none => 0

/-- Every field of a turn outcome within its bits of an image (section 12.3). -/
structure TurnOutcome.InRange (o : TurnOutcome) : Prop where
  station : 1 ≤ o.station ∧ o.station ≤ 4
  level : o.level ≤ 7
  startTag : ∀ k, o.startTag = some k → k < 86400
  endTag : o.endTag < 86400
  retriesUsed : o.retriesUsed ≤ 2
  energyBefore : ∀ k, o.energyBefore = some k → k ≤ 100
  energyAfter : ∀ k, o.energyAfter = some k → k ≤ 100

/-- Every field of an image within the range of its record field (R1). -/
structure Image.InRange (m : Image) : Prop where
  fleet : fleetOk m.fleet = true
  serviceClass : m.serviceClass ≤ 7
  energy : ∀ k, m.energy = some k → k ≤ 100
  attempts : m.attempts ≤ 3
  age : m.age ≤ 1023
  outcome : ∀ o, m.outcome = some o → o.InRange

end Sys2Proof.Machine
end

