-- ==== Sys2Proof/Certificates/Slice0/Obligations.lean ====
section
/-! DEFINITION. The statements for the provers: what each command does, what the machine keeps, and what the spec's rules say
of both. "Derived" statements rest on a part of their rules, or on a choice of the model that their docstring names. -/

open Sys2Proof Sys2Proof.Machine

/-! ### The machine -/

/-- One step with a command at the front of the queue is that command's effect with the rest of the queue. -/
def Obligations.StepRunsTheFrontCommand : Prop :=
  ∀ (c : Instr) (rest : List Instr) (s : State), s.pending = c :: rest → step s = exec c { s with pending := rest }

/-- With no command waiting the part's own time runs: what is due is taken, else one millisecond passes, and with it the minute
tick that falls in it. A millisecond counts 125 or 250 bits of an idle line: recessive ones, but on a lost line that has not yet
been read recessive; none in OFFLINE or while a frame is on the line. 256 dominant bits lose the line, 64 recessive ones end JOINING
and LOST, a PENDING window has its first bit, and a waiting frame starts. The order, the coarseness and the idle line's bits are the
model's choice (log entries 1 and 8; section 1.6). -/
def Obligations.IdleStepRunsThePartsOwnTime : Prop :=
  ∀ s : State, s.pending = [] →
    (∀ c, s.dueNext = some c → step s = exec c s)
    ∧ (s.dueNext = none → s.tickNext = false → step s = .next { s with toPart := advanceClock (tickTimers s.toPart) })
    ∧ (s.dueNext = none → s.tickNext = true → step s = exec .minuteTick { s with toPart := tickTimers s.toPart })
    ∧ (s.dueNext = none → s.tickNext = false → ∃ u, step s = .next u
      ∧ (s.lif.lineState = .offline ∨ s.lif.rx ≠ [] → u.lif.quiet = s.lif.quiet ∧ u.lif.stuck = s.lif.stuck)
      ∧ (∀ rate, s.lif.lineState ≠ .offline → s.lif.rx = [] → s.lif.bitRate = some rate →
        let bits := if rate = .kbit125 then 125 else 250
        (s.lif.lineState ≠ .lost ∨ s.lif.quiet ≠ 0 → u.lif.quiet = s.lif.quiet + bits ∧ u.lif.stuck = 0)
        ∧ (s.lif.lineState = .lost → s.lif.quiet = 0 → u.lif.quiet = 0 ∧ u.lif.stuck = s.lif.stuck + bits)))
    ∧ (s.lif.lineState ≠ .offline → s.lif.lineState ≠ .lost → 256 ≤ s.lif.stuck → step s = exec .lineLost s)
    ∧ (s.lif.lineState = .joining → s.lif.stuck < 256 → 64 ≤ s.lif.quiet → step s = exec .joiningComplete s)
    ∧ (s.lif.lineState = .lost → 64 ≤ s.lif.quiet → step s = exec .lostEnd s)
    ∧ (s.lif.lineState = .active → s.lif.stuck < 256 → s.lif.rx = [] → s.lif.window.cond = .pending →
      step s = exec (.windowFirstBit false) s)
    ∧ (∀ t, s.lif.lineState = .active ∨ s.lif.lineState = .claiming → s.lif.stuck < 256 → s.lif.rx = [] →
      s.lif.window.cond = .closed → s.lif.tx = some t → t.sending = false → t.key ≠ .offer →
      step s = exec .transmitStart s)

/-- The state after a power-on reset is within the bounds of the part's lists, counters and clock, and within the yard's
capacities. -/
def Obligations.ResetIsWithinBounds : Prop := State.reset.toPart.Bounded ∧ State.reset.toPart.WithinCapacity

/-- Every step keeps the bounds of the part's lists, counters and clock. Of itself, each, every step also keeps records and
reservations at most 96, queue places at most 16, awards and bids at most 8, at most two digs, each in a DIG lane of its
own, every lane's claims within its length and its twelve places, and one record at most for a fleet number. -/
def Obligations.EveryStepKeepsTheBounds : Prop :=
  ∀ s t : State, step s = .next t →
    (s.toPart.Bounded → t.toPart.Bounded)
    ∧ (s.recordCount ≤ 96 → t.recordCount ≤ 96)
    ∧ (s.queuePlaces ≤ 16 → t.queuePlaces ≤ 16)
    ∧ (s.awardPlaces ≤ 8 → t.awardPlaces ≤ 8)
    ∧ (s.toPart.DigsHold → t.toPart.DigsHold)
    ∧ (s.toPart.LanesHold → t.toPart.LanesHold)
    ∧ (s.toPart.FleetsDiffer → t.toPart.FleetsDiffer)

/-- Every command completes in every state, and leaves the queue and the factory identity as they are. -/
def Obligations.EveryCommandCompletes : Prop :=
  ∀ (c : Instr) (s : State), ∃ t, exec c s = .next t ∧ t.pending = s.pending ∧ t.identity = s.identity

/-- Outside OFFLINE no command but a reset changes a setting. The node number is one too, but that a claim replaces a 0: where
a node in CLAIMING has number 0, which every command keeps so, no other command changes the number. -/
def Obligations.SettingsAreLockedUntilReset : Prop :=
  (∀ (c : Instr) (s t : State), s.lif.lineState ≠ .offline → isReset c = false → exec c s = .next t →
    SameSettings s.toPart t.toPart
    ∧ ((s.lif.lineState = .claiming → s.lif.nodeNumber = 0) →
      t.lif.nodeNumber = s.lif.nodeNumber
      ∨ (s.lif.nodeNumber = 0 ∧ s.lif.lineState = .claiming ∧ s.lif.claim.number = some t.lif.nodeNumber
        ∧ t.lif.lineState = .active ∧ t.lif.claimed = true)))
  ∧ (∀ (c : Instr) (s t : State), (s.lif.lineState = .claiming → s.lif.nodeNumber = 0) → exec c s = .next t →
    t.lif.lineState = .claiming → t.lif.nodeNumber = 0)

/-- No command but CLEAR_COUNTERS and the resets lowers a fault counter. -/
def Obligations.FaultCountersNeverFall : Prop :=
  ∀ (c : Instr) (s t : State), s.lif.counters.Bounded → isReset c = false → c ≠ .clearCounters → exec c s = .next t →
    s.lif.counters.Le t.lif.counters

/-! ### Resets and settings -/

/-- Both resets clear the part: records, lanes, line, exchanges, gate, point, awards, digs and counts, the quiet and stuck
timers at 0, every timer stopped, the wash window OPEN. A power-on reset zeroes the clock, an external reset lets it run
on. That neither slot counts as driven and no bits are left to drive are values of the model's own fields (log entries 8 and 29,
DESIGN CHOICE). -/
def Obligations.ResetsClearThePart : Prop :=
  ∀ (straps : LinkRate) (s : State),
    (∃ t, exec (.powerOnReset straps) s = .next t ∧ ClearedByReset straps false s t
      ∧ t.yc.seconds = 0 ∧ t.yc.partMs = 0 ∧ t.yc.isSet = false)
    ∧ (∃ t, exec (.externalReset straps) s = .next t ∧ ClearedByReset straps true s t
      ∧ t.yc.seconds = s.yc.seconds ∧ t.yc.partMs = s.yc.partMs ∧ t.yc.isSet = s.yc.isSet)

/-- A well-formed CONFIG without duplicate aliases, in OFFLINE, starts the node: settings stored as clamped, every block
empty, lanes and point created, rotation mode and turn limits stored for every point kind, NONE included, the priority order 0
to 7, the wash window evaluated, JOINING entered, the reply ACCEPTED.
With room for them, the CONFIG_CLAMPED reports wait in their order, then a change of the wash window, and one LANE ASPECT STOP
for each lane, then one blank STATION DISPLAY for each station. -/
def Obligations.ConfigStartsTheNode : Prop :=
  ∀ (body : List Byte) (s : State), s.receives → s.lif.lineState = .offline → configOk body = true →
    (rawConfig body).taken.aliasesDiffer = true →
    ∃ t, exec (.config body) s = .next t
      ∧ t.settings = some (rawConfig body).taken.settings
      ∧ t.lm.lanes = (rawConfig body).taken.lanes
      ∧ t.ts.kind = (rawConfig body).taken.kind
      ∧ t.ts.rotating = (rawConfig body).taken.rotating ∧ t.ts.retryLimit = (rawConfig body).taken.retryLimit
      ∧ t.ts.grantLimit = (rawConfig body).taken.grantLimit ∧ t.ts.overrunLimit = (rawConfig body).taken.overrunLimit
      ∧ (t.ts.kind = none → t.ts.stations = [])
      ∧ (t.ts.kind.isSome → t.ts.opened = true ∧ t.ts.stations = (rawConfig body).taken.stations)
      ∧ t.ts.levels = List.replicate 8 [] ∧ t.ts.retryOrder = [] ∧ t.ts.heldLevels = []
      ∧ t.ts.order = [0, 1, 2, 3, 4, 5, 6, 7]
      ∧ (∀ i, t.record i = none) ∧ t.rs.wantedOrder = []
      ∧ t.xe = ExchangeEngine.empty ∧ t.du = { awards := [], digs := [] }
      ∧ t.iu = { gatePresent := (rawConfig body).taken.gate, intake := none, holdTimer := none }
      ∧ t.lif.lineState = .joining ∧ t.lif.bitRate = some (rawConfig body).taken.rate
      ∧ t.lif.nodeNumber = (rawConfig body).taken.node ∧ t.lif.claimed = false ∧ t.lif.quiet = 0 ∧ t.lif.stuck = 0
      ∧ t.lif.gap = 0
      ∧ t.lif.window = Window.shut
      ∧ t.lif.counters = s.lif.counters ∧ t.lif.lineLost = s.lif.lineLost
      ∧ t.identity = s.identity ∧ t.pending = s.pending
      ∧ t.yc.seconds = s.yc.seconds ∧ t.yc.partMs = s.yc.partMs ∧ t.yc.isSet = s.yc.isSet
      ∧ t.yc.washOpen = t.washVerdict
      ∧ t.fp.replies = s.fp.replies ++ [{ kind := 1, refused := none, payload := .none }]
      ∧ t.fp.linkErrors = s.fp.linkErrors ∧ t.fp.overflow = s.fp.overflow
      ∧ (s.fp.outputs.length + (rawConfig body).taken.lanes.length + (rawConfig body).taken.stations.length ≤ 64 →
        t.fp.outputs = s.fp.outputs
          ++ ((rawConfig body).taken.lanes.mapIdx fun k l => .laneAspect (k + 1) l.laneAlias .stop)
          ++ ((rawConfig body).taken.stations.mapIdx fun k _ => .stationDisplay (k + 1) .blank 0 none)
        ∧ (s.fp.reports.length + (rawConfig body).taken.reports.length ≤ 31 →
          t.fp.reports = s.fp.reports
            ++ ((rawConfig body).taken.reports.map fun r => { report := r, tag := s.yc.seconds })
            ++ (if t.washVerdict = s.yc.washOpen then []
                else [{ report := .washWindow t.washVerdict s.yc.seconds, tag := s.yc.seconds }])))

/-- A CONFIG that is not accepted changes nothing but the reply, and the link error count where it is malformed; the first
test that applies gives the reason. That a duplicate alias gives RANGE, not STATE, while settings are held is the model's choice
(log entry 68). -/
def Obligations.ConfigIsRefused : Prop :=
  ∀ (body : List Byte) (s : State), s.receives →
    (configOk body = false →
      exec (.config body) s = .next
        ({ s with fp := { s.fp with linkErrors := min (s.fp.linkErrors + 1) 65535 } }.replied 1 (some .range) .none))
    ∧ (configOk body = true → (rawConfig body).taken.aliasesDiffer = false →
      exec (.config body) s = .next (s.replied 1 (some .range) .none))
    ∧ (configOk body = true → (rawConfig body).taken.aliasesDiffer = true → s.lif.lineState ≠ .offline →
      exec (.config body) s = .next (s.replied 1 (some .state) .none))

/-- A value outside its setting's range is taken as the nearest limit, one in it as carried, and the mark DEFAULT as the
default; of the four reservation timeouts the nearest is taken, the lower of two equally near. Each value changed raises a
CONFIG_CLAMPED report with the value carried and the value taken, in the order of the settings' table. That the report carries 0
for the lane or station of a setting that has neither is the model's choice (log entry 54). -/
def Obligations.ConfigValuesAreClamped : Prop :=
  ∀ c : RawConfig,
    c.taken.node = min c.node 31
    ∧ c.taken.rate = (if c.rate ≤ 187 then .kbit125 else .kbit250)
    ∧ c.taken.lanes.map (fun l => (l.length, l.laneAlias, l.weight))
        = c.lanes.map (fun l => (max 4 (min l.length 24), max 1 (min l.laneAlias 255), min l.weight 63))
    ∧ c.taken.retryLimit = (if c.retryLimit = 255 then 1 else min c.retryLimit 2)
    ∧ c.taken.settings.offerRetryLimit = (if c.offerRetryLimit = 255 then 1 else max 1 (min c.offerRetryLimit 2))
    ∧ c.taken.settings.fuelThreshold = (if c.fuelThreshold = 255 then 90 else min c.fuelThreshold 100)
    ∧ c.taken.settings.reservationTimeout ∈ [20, 50, 100, 200]
    ∧ (c.reservationTimeout = 255 → c.taken.settings.reservationTimeout = 50)
    ∧ (c.reservationTimeout ≠ 255 → ∀ v ∈ [20, 50, 100, 200],
      let far := fun x => max x c.reservationTimeout - min x c.reservationTimeout
      far c.taken.settings.reservationTimeout < far v
        ∨ (far c.taken.settings.reservationTimeout = far v ∧ c.taken.settings.reservationTimeout ≤ v))
    ∧ c.taken.grantLimit = (if c.grantLimit = 255 then 3 else max 1 (min c.grantLimit 15)) * 60000
    ∧ c.taken.overrunLimit
        = (if c.overrunLimit = 255 then (if c.kind = 1 then 20 else 15) else max 1 (min c.overrunLimit 60)) * 60000
    ∧ c.taken.settings.awardLimit = (if c.awardLimit = 255 then 8 else max 2 (min c.awardLimit 30)) * 60000
    ∧ c.taken.settings.repeatInterval = (if c.repeatInterval = 255 then 10 else max 5 (min c.repeatInterval 60)) * 1000
    ∧ c.taken.settings.spacing = (if c.spacing = 65535 then 50 else max 20 (min c.spacing 500))
    ∧ c.taken.settings.gateHold = (if c.gateHold = 65535 then 90 else max 30 (min c.gateHold 300)) * 1000
    ∧ c.taken.settings.washOpen = (if c.washOpen = 65535 then 1080 else min c.washOpen 1439)
    ∧ c.taken.settings.washCutOff = (if c.washCutOff = 65535 then 150 else min c.washCutOff 1439)
    ∧ c.taken.reports =
        clampedIf .nodeNumber 0 c.node (min c.node 31)
        ++ clampedIf .bitRate 0 c.rate (if c.rate ≤ 187 then 125 else 250)
        ++ (c.lanes.mapIdx fun k l => clampedIf .laneLength (k + 1) l.length (max 4 (min l.length 24))
            ++ clampedIf .laneAlias (k + 1) l.laneAlias (max 1 (min l.laneAlias 255))
            ++ clampedIf .laneWeight (k + 1) l.weight (min l.weight 63)).flatten
        ++ (if c.retryLimit = 255 then [] else clampedIf .retryLimit 0 c.retryLimit (min c.retryLimit 2))
        ++ (if c.offerRetryLimit = 255 then []
            else clampedIf .offerRetryLimit 0 c.offerRetryLimit (max 1 (min c.offerRetryLimit 2)))
        ++ (if c.fuelThreshold = 255 then [] else clampedIf .fuelThreshold 0 c.fuelThreshold (min c.fuelThreshold 100))
        ++ (if c.reservationTimeout = 255 then []
            else clampedIf .reservationTimeout 0 c.reservationTimeout c.taken.settings.reservationTimeout)
        ++ (if c.grantLimit = 255 then [] else clampedIf .grantLimit 0 c.grantLimit (max 1 (min c.grantLimit 15)))
        ++ (if c.overrunLimit = 255 then [] else clampedIf .overrunLimit 0 c.overrunLimit (max 1 (min c.overrunLimit 60)))
        ++ (if c.awardLimit = 255 then [] else clampedIf .awardLimit 0 c.awardLimit (max 2 (min c.awardLimit 30)))
        ++ (if c.repeatInterval = 255 then []
            else clampedIf .repeatInterval 0 c.repeatInterval (max 5 (min c.repeatInterval 60)))
        ++ (if c.spacing = 65535 then [] else clampedIf .callSpacing 0 c.spacing (max 20 (min c.spacing 500)))
        ++ (if c.gateHold = 65535 then [] else clampedIf .gateHoldLimit 0 c.gateHold (max 30 (min c.gateHold 300)))
        ++ (if c.washOpen = 65535 then [] else clampedIf .washOpen 0 c.washOpen (min c.washOpen 1439))
        ++ (if c.washCutOff = 65535 then [] else clampedIf .washCutOff 0 c.washCutOff (min c.washCutOff 1439))

/-! ### The Field Port -/

/-- A field message that arrives while both receive places are taken is lost and reported, and changes nothing else; the
event of a start byte for which no place is free is the same. With a place free that event has no effect (log entry 3). -/
def Obligations.MessageWithoutAPlaceIsLost : Prop :=
  (∀ (c : Instr) (k : Nat) (s : State), (messageKind c = some k ∨ c = .inputOverflow) → 2 ≤ s.fp.replies.length →
    (s.fp.reports.length < 32 →
      exec c s = .next { s with fp := { s.fp with
        overflow := min (s.fp.overflow + 1) 65535
        reports := s.fp.reports ++
          [{ report := .inputOverflow (min (s.fp.overflow + 1) 65535), tag := s.yc.seconds }] } })
    ∧ (32 ≤ s.fp.reports.length →
      exec c s = .next { s with fp := { s.fp with
        overflow := min (s.fp.overflow + 1) 65535
        dropped := min (s.fp.dropped + 1) 65535 } }))
  ∧ (∀ s : State, s.receives → exec .inputOverflow s = .next s)

/-- A malformed message is answered REFUSED, RANGE, with its kind byte as read, and counted; a message cut short is
malformed; a discarded byte is counted. -/
def Obligations.LinkErrorsAreCounted : Prop :=
  (∀ (kind : Nat) (s : State), s.receives →
    exec (.malformedMessage kind) s = .next
        ({ s with fp := { s.fp with linkErrors := min (s.fp.linkErrors + 1) 65535 } }.replied kind (some .range) .none)
    ∧ exec (.messageGapTimeout kind) s = .next
        ({ s with fp := { s.fp with linkErrors := min (s.fp.linkErrors + 1) 65535 } }.replied kind (some .range) .none))
  ∧ (∀ s : State,
    exec .linkByteDiscarded s = .next { s with fp := { s.fp with linkErrors := min (s.fp.linkErrors + 1) 65535 } })

/-- CLEAR_COUNTERS clears the six fault counters and the port's three, the consecutive counts staying; CLEAR_LOST clears the
line-lost flag outside LOST, and is refused in it. -/
def Obligations.CountersAndLostFlagAreCleared : Prop :=
  ∀ s : State, s.receives →
    exec .clearCounters s = .next ({ s with
      lif := { s.lif with counters := { checkFailures := 0, flawsSignalled := 0, echoFaults := 0, ownFailures := 0,
                                        lostContentions := 0, numberClashes := 0 } }
      fp := { s.fp with overflow := 0, linkErrors := 0, outputDropped := 0 } }.replied 16 none .none)
    ∧ (s.lif.lineState ≠ .lost →
      exec .clearLost s = .next ({ s with lif := { s.lif with lineLost := false } }.replied 17 none .none))
    ∧ (s.lif.lineState = .lost → exec .clearLost s = .next (s.replied 17 (some .state) .none))

/-- A STATUS_REQUEST is answered in every line state and changes nothing; its reply carries parts 0 to 5 in 63 bytes, then the
stations, lanes, awards and digs, each after its count. Each count and timer stands in its bytes as R194 lays them down;
values without a code of the spec are Config.unlistedCode (log entry 6). The open exchanges are those that R73 has not closed
(log entry 17), the receive places include the request's own (log entry 3), reservations count whether OFFERING or HELD (log
entry 33), and the order of awards and digs is the lists' (log entry 46), the places of the fields log entry 19's. -/
def Obligations.StatusReplyCarriesTheCounts : Prop :=
  ∀ s : State, s.receives →
    ∃ bytes, exec .statusRequest s = .next (s.replied 18 none (.status bytes))
      ∧ slice bytes 0 4 = [byte s.lif.lineState.code, byte s.lif.nodeNumber, byte s.lif.consecutiveFailures,
                           byte s.lif.consecutiveFlaws]
      ∧ wordAt bytes 4 2 = s.lif.counters.checkFailures % 65536
      ∧ wordAt bytes 6 2 = s.lif.counters.flawsSignalled % 65536
      ∧ wordAt bytes 8 2 = s.lif.counters.echoFaults % 65536
      ∧ wordAt bytes 10 2 = s.lif.counters.ownFailures % 65536
      ∧ wordAt bytes 12 2 = s.lif.counters.lostContentions % 65536
      ∧ wordAt bytes 14 2 = s.lif.counters.numberClashes % 65536
      ∧ byteAt bytes 16 = (if s.lif.lineLost then 1 else 0)
      ∧ slice bytes 17 5 = [byte s.recordsHeld, byte s.xe.reservations.length,
                            byte (s.xe.exchanges.countP fun e => e.closing = false), byte s.rs.wantedOrder.length,
                            byte s.xe.questions.length]
      ∧ slice bytes 22 5 = [if s.settings.isSome then 1 else 0, Config.unlistedCode (.linkRate (LinkRate.strap s.fp.linkRate)),
                            byte (s.fp.replies.length + 1), byte s.fp.outputs.length, byte s.fp.reports.length]
      ∧ wordAt bytes 27 2 = s.fp.dropped % 65536 ∧ wordAt bytes 29 2 = s.fp.overflow % 65536
      ∧ wordAt bytes 31 2 = s.fp.linkErrors % 65536 ∧ wordAt bytes 33 2 = s.fp.outputDropped % 65536
      ∧ wordAt bytes 35 3 = s.yc.seconds % 16777216
      ∧ slice bytes 38 3 = [if s.yc.isSet then 1 else 0,
                            Config.unlistedCode (if s.yc.washOpen then .washOpen else .washClosed),
                            if s.settings.any (·.timeSource) then 1 else 0]
      ∧ slice bytes 41 1 = [Config.unlistedCode (if s.iu.intake.isSome then .gateHolding else .gateIdle)]
      ∧ wordAt bytes 42 2 = ((s.iu.intake.map (·.fleet)).getD 0) % 65536
      ∧ wordAt bytes 44 2 = (s.iu.holdTimer.getD 0 / 1000) % 65536
      ∧ (s.ts.kind = none → slice bytes 46 17 = List.replicate 17 0)
      ∧ (s.ts.kind.isSome →
        slice bytes 46 4 = [if s.ts.kind = some .fuel then 1 else 2, if s.ts.opened then 0 else 1, byte s.queuePlaces,
                            byte s.queueReservations]
        ∧ (∀ level, level < 8 → slice bytes (50 + level) 1 = [byte (s.ts.levels.getD level []).length])
        ∧ slice bytes 58 1 = [byte s.ts.retryOrder.length]
        ∧ wordAt bytes 59 3 = (s.ts.order.foldl (fun a l => a * 8 + l) 0) % 16777216
        ∧ (∀ level, level < 8 → ((byteAt bytes 62).testBit level = true ↔ level ∈ s.ts.heldLevels)))
      ∧ slice bytes 63 1 = [byte s.ts.stations.length]
      ∧ (∀ k st, s.station k = some st →
        wordAt bytes (64 + 2 * (k - 1)) 2 = (st.state.code * 16384 + st.fleet) % 65536)
      ∧ ∃ lanesAt awardsAt digsAt, lanesAt = 64 + 2 * s.ts.stations.length
        ∧ awardsAt = lanesAt + 1 + 9 * s.lm.lanes.length ∧ digsAt = awardsAt + 1 + 10 * s.du.awards.length
        ∧ bytes.length = digsAt + 1 + 17 * s.du.digs.length
        ∧ slice bytes lanesAt 1 = [byte s.lm.lanes.length] ∧ slice bytes awardsAt 1 = [byte s.du.awards.length]
        ∧ slice bytes digsAt 1 = [byte s.du.digs.length]
        ∧ (∀ n l, s.lane n = some l → slice bytes (lanesAt + 1 + 9 * (n - 1)) 9 =
          [byte n, byte l.laneAlias, byte (l.state.code * 4 + l.displayed.code), byte (s.unitsUsed n), byte (s.freeUnits n),
           byte l.entries.length, byte (l.entries.countP fun e => e.unconfirmed), byte l.allocs.length,
           byte (s.reservedUnits n).length])
        ∧ (∀ k a, s.du.awards[k]? = some a → slice bytes (awardsAt + 1 + 10 * k) 10 =
          toBytes 2 a.slot ++ toBytes 2 a.due ++ toBytes 2 a.fleet
            ++ [byte (s.aliasOf a.lane), byte ((if a.mode = .digging then 2 else 0) + if a.timer.isSome then 1 else 0)]
            ++ toBytes 2 (a.timer.getD 0 / 1000))
        ∧ (∀ k d, s.du.digs[k]? = some d → slice bytes (digsAt + 1 + 17 * k) 17 =
          [byte (s.aliasOf d.lane)] ++ toBytes 2 d.targetFleet ++ toBytes 2 d.slot
            ++ [byte (d.phase.code * 16 + s.digAttempts d), byte d.blockers.length]
            ++ toBytes 2 ((d.blockers[0]?.map (·.2)).getD 0) ++ toBytes 2 ((d.blockers[1]?.map (·.2)).getD 0)
            ++ toBytes 2 ((d.blockers[2]?.map (·.2)).getD 0) ++ toBytes 2 d.focus ++ toBytes 2 (d.timer.getD 0 / 1000))

/-- A free output line takes the oldest reply, else the head of the output queue, else the head of the report queue with the
dropped count, which becomes 0; with nothing waiting, nothing changes. What is sent stands as its bytes and its bits, each byte
a start bit, eight data bits with the least first, and a stop bit: start byte, length, kind, body, and a check that, taken on
over the check itself, comes to 0. An output joins its queue; where that is full, the oldest superseded one makes room, else
the oldest GUIDANCE marked LATE or SHUNT, counted and reported, else the new one is dropped so. That the message sent stays
readable on the line is the model's choice (log entry 27). So is it that at 64 outputs, none of which R186 removes, the new one is
dropped even where it is a BARRIER or a GUIDANCE marked GATE, which R186 says always finds a place (log entry 67, DESIGN CHOICE). -/
def Obligations.OutputLineTakesTheFirstWaiting : Prop :=
  (∀ (s : State) (line : SentMessage → OutLine),
    (∀ m, line m = { message := m, bytes := fieldBytes m.parts.1 m.parts.2,
                     bits := (fieldBytes m.parts.1 m.parts.2).flatMap fun b =>
                       [false, b.getLsbD 0, b.getLsbD 1, b.getLsbD 2, b.getLsbD 3, b.getLsbD 4, b.getLsbD 5, b.getLsbD 6,
                        b.getLsbD 7, true] }) →
    (∀ r rest, s.fp.replies = r :: rest → exec .outputLineFree s = .next { s with fp := { s.fp with
      replies := rest, lineOut := some (line (.reply r)) } })
    ∧ (∀ o rest, s.fp.replies = [] → s.fp.outputs = o :: rest →
      exec .outputLineFree s = .next { s with fp := { s.fp with outputs := rest, lineOut := some (line (.output o)) } })
    ∧ (∀ q rest, s.fp.replies = [] → s.fp.outputs = [] → s.fp.reports = q :: rest →
      exec .outputLineFree s = .next { s with fp := { s.fp with
        reports := rest, dropped := 0, lineOut := some (line (.report q s.fp.dropped)) } })
    ∧ (s.fp.replies = [] → s.fp.outputs = [] → s.fp.reports = [] → exec .outputLineFree s = .next s))
  ∧ (∀ (kind : Nat) (body : List Byte), kind < 256 → body.length ≤ 250 →
    ∃ hi lo : Byte, fieldBytes kind body = [195, byte body.length, byte kind] ++ body ++ [hi, lo]
      ∧ check (([byte body.length, byte kind] ++ body ++ [hi, lo]).flatMap fun b => toBits 8 b.toNat) = 0)
  ∧ ((∀ n al asp, (SentMessage.output (.laneAspect n al asp)).parts = (131, [byte n, byte al, byte asp.code]))
    ∧ (∀ k line f, (SentMessage.output (.stationDisplay k line f none)).parts
        = (132, [byte k, byte line.code] ++ toBytes 2 f ++ [0, 0, 0, 0]))
    ∧ (∀ k line f g al, (SentMessage.output (.stationDisplay k line f (some (g, .lane al)))).parts
        = (132, [byte k, byte line.code] ++ toBytes 2 f ++ [1] ++ toBytes 2 g ++ [byte al]))
    ∧ (∀ f m n r, (SentMessage.output (.guidance f m (.node n) r)).parts
        = (133, toBytes 2 f ++ [byte m.code, 2, byte n, byte r.code]))
    ∧ (∀ b, (SentMessage.output (.barrier b)).parts = (134, [if b then 1 else 0]))
    ∧ (∀ k r, (SentMessage.reply { kind := k, refused := r, payload := .none }).parts = (129, [byte k, byte (resultCode r)]))
    ∧ (∀ bytes k r, (SentMessage.reply { kind := k, refused := r, payload := .status bytes }).parts = (130, bytes))
    ∧ (∀ q d, (SentMessage.report q d).parts
        = (135, [byte q.report.number] ++ toBytes 3 q.tag ++ toBytes 2 d ++ q.report.contents)))
  ∧ (∀ (o : Output) (p : Part), p.fp.outputs.length < (if p.iu.intake.isSome && !o.forGate then 62 else 64) →
    produce o p = { p with fp := { p.fp with outputs := p.fp.outputs ++ [o] } })
  ∧ (∀ (o : Output) (p : Part), (if p.iu.intake.isSome && !o.forGate then 62 else 64) ≤ p.fp.outputs.length →
    (∀ k, Superseded p.fp.outputs k → (∀ j, j < k → ¬ Superseded p.fp.outputs j) →
      produce o p = { p with fp := { p.fp with outputs := p.fp.outputs.eraseIdx k ++ [o] } })
    ∧ ((∀ k, ¬ Superseded p.fp.outputs k) → p.fp.reports.length < 32 →
      (∀ k fleet marker shown reason, (marker = .late ∨ marker = .shunt) →
        p.fp.outputs[k]? = some (.guidance fleet marker shown reason) →
        (∀ j f m sh re, j < k → p.fp.outputs[j]? = some (.guidance f m sh re) → m = .gate) →
        produce o p = { p with fp := { p.fp with
          outputs := p.fp.outputs.eraseIdx k ++ [o], outputDropped := min (p.fp.outputDropped + 1) 65535
          reports := p.fp.reports ++ [{ report := .outputDroppedFleet fleet, tag := p.yc.seconds }] } })
      ∧ ((∀ f m sh re, .guidance f m sh re ∈ p.fp.outputs → m = .gate) →
        produce o p = { p with fp := { p.fp with
          outputDropped := min (p.fp.outputDropped + 1) 65535
          reports := p.fp.reports ++ [{ report := .outputDroppedKind o.code, tag := p.yc.seconds }] } })))

/-- A report joins the tail of the report queue with the seconds of day, or is dropped and counted at 32; the report sent
carries the dropped count, which then becomes 0 (what was sent stands in lineOut, the model's choice: log entry 27); a reset
leaves the RESET report alone in the queue (R192) and clears the count; CLEAR_COUNTERS changes neither. -/
def Obligations.ReportsQueueUpToThirtyTwo : Prop :=
  (∀ (r : Report) (p : Part), p.fp.reports.length < 32 →
    queueReport r p = { p with fp := { p.fp with
      reports := p.fp.reports ++ [{ report := r, tag := p.yc.seconds }] } })
  ∧ (∀ (r : Report) (p : Part), p.fp.reports.length = 32 →
    queueReport r p = { p with fp := { p.fp with dropped := min (p.fp.dropped + 1) 65535 } })
  ∧ (∀ (s : State) (q : QueuedReport) (rest : List QueuedReport),
    s.fp.replies = [] → s.fp.outputs = [] → s.fp.reports = q :: rest →
    ∃ bytes bits, exec .outputLineFree s = .next { s with fp := { s.fp with
      reports := rest, dropped := 0
      lineOut := some { message := .report q s.fp.dropped, bytes := bytes, bits := bits } } })
  ∧ (∀ (straps : LinkRate) (s : State),
    (∃ t, exec (.powerOnReset straps) s = .next t
      ∧ t.fp.reports = [{ report := .reset false s.identity, tag := 0 }] ∧ t.fp.dropped = 0)
    ∧ (∃ t, exec (.externalReset straps) s = .next t
      ∧ t.fp.reports = [{ report := .reset true s.identity, tag := s.yc.seconds }] ∧ t.fp.dropped = 0))
  ∧ (∀ s : State, s.receives → ∃ t, exec .clearCounters s = .next t
    ∧ t.fp.reports = s.fp.reports ∧ t.fp.dropped = s.fp.dropped)

/-! ### The gate -/

/-- An accepted GATE_ARRIVAL starts the hold: the bus's record is INTAKE with the tag's values, a new one at the lowest free
index or the held one reused, its question with the gate flag waits, the gate holds it, and for a new record BARRIER HOLD
is among the outputs and nothing else in the yard changes. The routing rule opens the record's exchange: FUEL where its
energy is absent or below the threshold, else WASH where a wash is due and the window open, else BERTH. With the record store full
an arrival without a record starts no hold: the gate display shows APRON with NO_RECORD, the barrier is released, GATE_NO_RECORD is
queued, and nothing else in the yard changes. A reused record loses its old place: its lane entry goes, those ahead of it
unconfirmed, and its allocation; BARRIER HOLD follows where the displays of the clearing leave the output queue a place (log entry
67, DESIGN CHOICE); GATE_REUSED carries the prior place state and the slot of the award dropped, 0 for none (log entry 69, DESIGN
CHOICE). -/
def Obligations.GateArrivalStartsTheHold : Prop :=
  ∀ (raw : RawTag) (t : Tag) (s : State), s.receives → s.iu.gatePresent = true → s.iu.intake = none →
    readRawTag raw = some t → s.fp.outputs.length ≤ 61 →
    (∀ i, s.findFleet t.fleet = none → s.recordCount < 96 → s.freeIndex = some i →
      ∃ u, exec (.gateArrival raw) s = .next u
        ∧ (∃ r, u.record i = some r ∧ FromTag t r ∧ r.place = .intake ∧ r.age = 0 ∧ r.washed = false ∧ r.stray = false)
        ∧ u.iu = { gatePresent := true, intake := some { record := i, fleet := t.fleet },
                   holdTimer := some (s.setting (·.gateHold)) }
        ∧ (∃ q ∈ u.xe.questions, q.record = i ∧ q.fleet = t.fleet ∧ q.gate = true ∧ q.state = .waiting)
        ∧ (∀ id, s.freeExchangeId = some id → s.exchangeOf i = none → s.du.digs = [] →
          ∃ e ∈ u.xe.exchanges, e.id = id ∧ e.record = i ∧ e.requester = .rs ∧ e.closing = false
            ∧ e.kind = (if t.energy.all (· < s.setting (·.fuelThreshold)) then .fuel
                        else if t.washDue && s.yc.washOpen then .wash else .berth))
        ∧ .barrier false ∈ u.fp.outputs
        ∧ u.fp.replies = s.fp.replies ++ [{ kind := 2, refused := none, payload := .none }]
        ∧ OtherRecordsKept i s.toPart u.toPart ∧ SetupKept s.toPart u.toPart
        ∧ (∀ n, BothOrNone Lane.SettledTo (s.lane n) (u.lane n)) ∧ u.ts = s.ts
        ∧ u.xe.reservations = s.xe.reservations ∧ u.xe.memory = s.xe.memory ∧ SameLine s.lif u.lif)
    ∧ (s.findFleet t.fleet = none → 96 ≤ s.recordCount →
      ∃ u, exec (.gateArrival raw) s = .next u
        ∧ u.iu = s.iu ∧ FirstReport s u (.gateNoRecord t.fleet t.fuel t.lengthClass)
        ∧ .guidance t.fleet .gate .apron .noRecord ∈ u.fp.outputs ∧ .barrier true ∈ u.fp.outputs
        ∧ (s.fp.outputs.length + s.lm.lanes.length ≤ 62 →
          ∃ more, u.fp.outputs = s.fp.outputs ++ [.guidance t.fleet .gate .apron .noRecord, .barrier true] ++ more)
        ∧ u.fp.replies = s.fp.replies ++ [{ kind := 2, refused := none, payload := .none }]
        ∧ YardKept s.toPart u.toPart ∧ u.xe.questions = s.xe.questions ∧ u.xe.reservations = s.xe.reservations
        ∧ u.xe.memory = s.xe.memory ∧ SameLine s.lif u.lif)
    ∧ (∀ i, s.findFleet t.fleet = some i →
      ∃ u, exec (.gateArrival raw) s = .next u
        ∧ (∃ r, u.record i = some r ∧ FromTag t r ∧ r.place = .intake ∧ r.age = 0 ∧ r.washed = false ∧ r.stray = false)
        ∧ u.iu = { gatePresent := true, intake := some { record := i, fleet := t.fleet },
                   holdTimer := some (s.setting (·.gateHold)) }
        ∧ (∃ q ∈ u.xe.questions, q.record = i ∧ q.fleet = t.fleet ∧ q.gate = true ∧ q.state = .waiting)
        ∧ EntryTaken i s u ∧ (∀ n l, u.lane n = some l → ∀ a ∈ l.allocs, a.record ≠ i)
        ∧ (s.freeExchangeId.isSome = true → s.rs.wantedOrder = [] → s.du.digs = [] →
          (∀ x ∈ s.xe.exchanges, ∀ y ∈ s.xe.exchanges, x.record = i → y.record = i → x.closing = false → y.closing = false →
            x.id = y.id) →
          ∃ e ∈ u.xe.exchanges, e.record = i ∧ e.requester = .rs ∧ e.closing = false
            ∧ e.kind = (if t.energy.all (· < s.setting (·.fuelThreshold)) then .fuel
                        else if t.washDue && s.yc.washOpen then .wash else .berth))
        ∧ (s.fp.outputs.length + s.ts.stations.length ≤ 62 →
          .barrier false ∈ u.fp.outputs
          ∧ ∀ r, s.record i = some r → s.fp.reports.length < 27 →
            ∃ q ∈ u.fp.reports.drop s.fp.reports.length, q.tag = s.yc.seconds
              ∧ q.report = .gateReused t.fleet r.place ((r.award.map (·.1)).getD 0))
        ∧ u.fp.replies = s.fp.replies ++ [{ kind := 2, refused := none, payload := .none }]
        ∧ u.xe.reservations = s.xe.reservations ∧ u.xe.memory = s.xe.memory ∧ SameLine s.lif u.lif
        ∧ SetupKept s.toPart u.toPart)

/-- The gate hold limit ends the hold: the gate is IDLE, its display shows APRON with HOLD_LIMIT, the barrier is released, the
report is queued, and nothing else changes. -/
def Obligations.GateHoldLimitEndsTheHold : Prop :=
  ∀ (t : Intake) (k : Nat) (s : State), s.iu.intake = some t → s.iu.holdTimer = some k →
    ∃ u, exec .gateHoldExpiry s = .next u
      ∧ u.iu = { s.iu with intake := none, holdTimer := none }
      ∧ u.settings = s.settings ∧ u.identity = s.identity ∧ u.rs = s.rs ∧ u.lm = s.lm ∧ u.lif = s.lif ∧ u.xe = s.xe
      ∧ u.ts = s.ts ∧ u.du = s.du ∧ u.yc = s.yc ∧ u.fp.replies = s.fp.replies
      ∧ (s.fp.outputs.length ≤ 62 →
        u.fp.outputs = s.fp.outputs ++ [.guidance t.fleet .gate .apron .holdLimit, .barrier true])
      ∧ (s.fp.outputs.length ≤ 62 → s.fp.reports.length < 32 →
        u.fp.reports = s.fp.reports ++ [{ report := .holdExpired t.fleet (s.callOf t.record), tag := s.yc.seconds }])

/-! ### The lanes -/

/-- An entry read of a bus that the node does not know, into a lane with room: a stray PARKED record with standing age 0, a
TRACKED entry at the entry end with its flag clear, a question without the gate flag, and a WRONG_END report at the mouth of
a THROUGH lane. With the record store full, no record and no question: an UNTRACKED entry, and an UNTRACKED report. That
WRONG_END comes before the other reports of the read is the model's choice (log entry 55). A lane without
room gives way, one claim at a time, until the entry fits: its newest berth reservation is
released and reported revoked; with none left its newest allocation goes and its record becomes LOOSE; with none left its last
entry goes, reported as an order fault, a PARKED or AWARDED record of it becoming LOOSE, an award of it withdrawn with a MISSED
notice, or with GIVEN_UP under a dig. -/
def Obligations.UnknownBusReadInBecomesStray : Prop :=
  (∀ (n e : Nat) (raw : RawTag) (t : Tag) (l : Lane) (i : Nat) (s : State), s.receives → s.lane n = some l →
    l.hasReader e = true → readRawTag raw = some t → s.findFleet t.fleet = none → s.findEntry t.fleet = none →
    s.fits n t.lengthClass.units = true → s.recordCount < 96 → s.freeIndex = some i →
    ∃ u, exec (.laneEntryRead n { readerEnd := e, direction := 0 } raw) s = .next u
      ∧ (∃ l', u.lane n = some l' ∧ l'.allocs = l.allocs
        ∧ l'.entries = (if e = 0 then { fleet := t.fleet, units := t.lengthClass.units, kind := .tracked i,
                                        unconfirmed := false } :: l.entries
          else l.entries ++ [{ fleet := t.fleet, units := t.lengthClass.units, kind := .tracked i,
                               unconfirmed := false }]))
      ∧ (∃ r, u.record i = some r ∧ FromTag t r ∧ r.place = .parked ∧ r.stray = true ∧ r.age = 0)
      ∧ (∃ q ∈ u.xe.questions, q.record = i ∧ q.fleet = t.fleet ∧ q.gate = false ∧ q.state = .waiting)
      ∧ (l.type = .through → e = 0 → FirstReport s u (.wrongEnd l.laneAlias t.fleet))
      ∧ u.fp.replies = s.fp.replies ++ [{ kind := 3, refused := none, payload := .none }]
      ∧ OtherRecordsKept i s.toPart u.toPart ∧ OtherLanesKept n s.toPart u.toPart ∧ SetupKept s.toPart u.toPart
      ∧ u.iu = s.iu ∧ u.ts = s.ts ∧ u.xe.reservations = s.xe.reservations ∧ u.xe.memory = s.xe.memory
      ∧ SameLine s.lif u.lif)
  ∧ (∀ (n e : Nat) (raw : RawTag) (t : Tag) (l : Lane) (s : State), s.receives → s.lane n = some l →
    l.hasReader e = true → readRawTag raw = some t → s.findFleet t.fleet = none → s.findEntry t.fleet = none →
    s.fits n t.lengthClass.units = true → 96 ≤ s.recordCount →
    ∃ u, exec (.laneEntryRead n { readerEnd := e, direction := 0 } raw) s = .next u
      ∧ (∃ l', u.lane n = some l' ∧ l'.allocs = l.allocs
        ∧ l'.entries = (if e = 0 then { fleet := t.fleet, units := t.lengthClass.units, kind := .untracked,
                                        unconfirmed := false } :: l.entries
          else l.entries ++ [{ fleet := t.fleet, units := t.lengthClass.units, kind := .untracked,
                               unconfirmed := false }]))
      ∧ (l.type = .deadEnd ∨ e ≠ 0 → FirstReport s u (.untracked l.laneAlias t.fleet))
      ∧ (l.type = .through → e = 0 → FirstReport s u (.wrongEnd l.laneAlias t.fleet)
        ∧ (s.fp.reports.length < 31 → u.fp.reports[s.fp.reports.length + 1]?
            = some { report := .untracked l.laneAlias t.fleet, tag := s.yc.seconds }))
      ∧ u.fp.replies = s.fp.replies ++ [{ kind := 3, refused := none, payload := .none }]
      ∧ (∀ j, BothOrNone Rec.SettledTo (s.record j) (u.record j)) ∧ OtherLanesKept n s.toPart u.toPart
      ∧ SetupKept s.toPart u.toPart ∧ u.xe.questions = s.xe.questions ∧ u.iu = s.iu ∧ u.ts = s.ts
      ∧ u.xe.reservations = s.xe.reservations ∧ u.xe.memory = s.xe.memory ∧ SameLine s.lif u.lif)
  ∧ (∀ (n units : Nat) (l : Lane) (p : Part), p.lane n = some l → units ≤ l.length → p.placesInUse n ≤ 12 →
    (giveWay n units claimBound p).fits n units = true
    ∧ (p.fits n units = true → giveWay n units claimBound p = p)
    ∧ (p.fits n units = false → (shedOne n p).fits n units = true → giveWay n units claimBound p = shedOne n p))
  ∧ (∀ (n : Nat) (l : Lane) (p : Part), p.lane n = some l →
    (∀ older v newer units, p.xe.reservations = older ++ v :: newer → v.resource = .berth n units →
      (∀ x ∈ newer, ∀ m, x.resource ≠ .berth n m) →
      shedOne n p = queueReport (.reservationRevoked l.laneAlias v.caller v.callId)
        { p with xe := { p.xe with
          reservations := p.xe.reservations.filter fun x => ¬ (x.caller = v.caller ∧ x.callId = v.callId) } })
    ∧ ((∀ x ∈ p.xe.reservations, ∀ m, x.resource ≠ .berth n m) →
      (∀ older a r, l.allocs = older ++ [a] → p.record a.record = some r →
        (∃ r', (shedOne n p).record a.record = some r' ∧ r'.place = .loose ∧ r'.destination = none
          ∧ r'.placeTimer = some (30 * 60 * 1000))
        ∧ (∃ l', (shedOne n p).lane n = some l' ∧ l'.entries = l.entries
          ∧ l'.allocs = l.allocs.filter (fun x => x.record ≠ a.record))
        ∧ (p.fp.reports.length < 32 → (shedOne n p).fp.reports
            = p.fp.reports ++ [{ report := .allocationRevoked l.laneAlias r.fleet, tag := p.yc.seconds }]))
      ∧ (∀ older e, l.allocs = [] → l.entries = older ++ [e] →
        (∃ l', (shedOne n p).lane n = some l' ∧ l'.entries = older)
        ∧ (p.fp.reports.length < 32 → (shedOne n p).fp.reports[p.fp.reports.length]?
            = some { report := .orderFault l.laneAlias e.fleet .giveWay, tag := p.yc.seconds })
        ∧ (∀ i r, e.kind = .tracked i → p.record i = some r →
          (∃ r', (shedOne n p).record i = some r' ∧ r'.place = .loose ∧ r'.fleet = r.fleet
            ∧ (∀ a, p.awardOf i = some a → r'.award = none))
          ∧ (∀ a, p.awardOf i = some a → p.xe.notices.length < 8 →
            (∀ x ∈ (shedOne n p).du.awards, x.slot ≠ a.slot)
            ∧ (shedOne n p).xe.notices = p.xe.notices
                ++ [{ notice := { fleet := a.fleet, slot := a.slot, laneAlias := p.aliasOf a.lane,
                                  kind := if a.mode = .digging then .givenUp else .missed, tag := p.yc.seconds },
                      failures := 0 }])))))

/-- An entry read of an EN_ROUTE bus into the lane of its inbound allocation: the allocation becomes the entry, with its
units; the record is PARKED, its destination cleared and its inbound limit stopped. A PARKED bus that stands in another lane
and is read here moves: its old entry goes, those ahead of it there are unconfirmed, an order fault MOVED is reported, and it
stands here, PARKED, with its standing age. -/
def Obligations.InboundBusReadInIsParked : Prop :=
  (∀ (n e : Nat) (raw : RawTag) (t : Tag) (l : Lane) (i m v : Nat) (r : Rec) (s : State), s.receives →
    s.lane n = some l → l.hasReader e = true → readRawTag raw = some t → s.findEntry t.fleet = none →
    s.findFleet t.fleet = some i → s.record i = some r → r.place = .enRoute → r.destination = some (.lane m) →
    s.allocOf i = some n → s.allocUnits n i = some v →
    ∃ u, exec (.laneEntryRead n { readerEnd := e, direction := 0 } raw) s = .next u
      ∧ (∃ l', u.lane n = some l'
        ∧ l'.allocs = l.allocs.filter (fun a => a.record != i)
        ∧ l'.entries = (if e = 0 then { fleet := t.fleet, units := v, kind := .tracked i, unconfirmed := false } :: l.entries
          else l.entries ++ [{ fleet := t.fleet, units := v, kind := .tracked i, unconfirmed := false }]))
      ∧ (∃ r', u.record i = some r' ∧ r'.fleet = r.fleet ∧ r'.place = .parked ∧ r'.destination = none
        ∧ r'.placeTimer = none ∧ r'.age = r.age ∧ r'.energy = r.energy
        ∧ r'.fuel = (if r.fuel = .unknown then t.fuel else r.fuel))
      ∧ u.fp.replies = s.fp.replies ++ [{ kind := 3, refused := none, payload := .none }]
      ∧ OtherRecordsKept i s.toPart u.toPart ∧ SetupKept s.toPart u.toPart
      ∧ u.iu = s.iu ∧ u.ts = s.ts ∧ u.xe.reservations = s.xe.reservations ∧ u.xe.memory = s.xe.memory
      ∧ SameLine s.lif u.lif)
  ∧ (∀ (n e m k i : Nat) (raw : RawTag) (t : Tag) (l o : Lane) (x : Entry) (r : Rec) (s : State), s.receives →
    s.lane n = some l → l.hasReader e = true → readRawTag raw = some t → s.findEntry t.fleet = some (m, k) → m ≠ n →
    s.lane m = some o → o.entries[k]? = some x → x.kind = .tracked i → s.findFleet t.fleet = some i →
    s.record i = some r → r.place = .parked → s.allocOf i = none → s.fits n r.lengthClass.units = true →
    ∃ u, exec (.laneEntryRead n { readerEnd := e, direction := 0 } raw) s = .next u
      ∧ (∃ o', u.lane m = some o' ∧ o'.allocs = o.allocs
        ∧ o'.entries = (o.entries.take k).map (fun y => { y with unconfirmed := true }) ++ o.entries.drop (k + 1))
      ∧ (∃ l', u.lane n = some l' ∧ l'.allocs = l.allocs
        ∧ l'.entries = (if e = 0 then { fleet := r.fleet, units := r.lengthClass.units, kind := .tracked i,
                                        unconfirmed := false } :: l.entries
          else l.entries ++ [{ fleet := r.fleet, units := r.lengthClass.units, kind := .tracked i,
                               unconfirmed := false }]))
      ∧ (∃ r', u.record i = some r' ∧ r'.fleet = r.fleet ∧ r'.place = .parked ∧ r'.age = r.age ∧ r'.unconfirmed = false
        ∧ r'.stray = r.stray ∧ r'.lastLane = some n)
      ∧ (l.type = .deadEnd ∨ e ≠ 0 → FirstReport s u (.orderFault o.laneAlias x.fleet .moved))
      ∧ u.fp.replies = s.fp.replies ++ [{ kind := 3, refused := none, payload := .none }]
      ∧ SetupKept s.toPart u.toPart ∧ u.iu = s.iu ∧ u.ts = s.ts ∧ u.xe.reservations = s.xe.reservations
      ∧ (∀ j, j ≠ n → j ≠ m → BothOrNone Lane.SettledTo (s.lane j) (u.lane j)) ∧ SameLine s.lif u.lif)

/-- A mouth exit read of the front entry removes it. A PARKED bus becomes LOOSE with the loose limit running; an AWARDED one
departs: its award and its record go and a DEPARTED notice waits; an OUTBOUND or UNTRACKED entry just goes. A mouth read of
another entry, and a rear read of any, of a THROUGH lane, are order faults: the entry goes, a PARKED bus becomes LOOSE, an
AWARDED one departs all the same, those ahead are unconfirmed, and the fault is reported with its cause. -/
def Obligations.FrontBusReadOutLeavesTheLane : Prop :=
  (∀ (n : Nat) (l : Lane) (e : Entry) (rest : List Entry) (s : State), s.receives → s.lane n = some l →
    l.entries = e :: rest → fleetOk e.fleet = true →
    (∀ i r, e.kind = .tracked i → s.record i = some r → r.place = .parked →
      ∃ u, exec (.laneExitRead n 0 e.fleet) s = .next u
        ∧ (∃ l', u.lane n = some l' ∧ l'.entries = rest ∧ l'.allocs = l.allocs)
        ∧ (∃ r', u.record i = some r' ∧ r'.fleet = r.fleet ∧ r'.place = .loose ∧ r'.destination = none
          ∧ r'.placeTimer = some (30 * 60 * 1000) ∧ r'.unconfirmed = false ∧ r'.age = r.age)
        ∧ u.fp.replies = s.fp.replies ++ [{ kind := 3, refused := none, payload := .none }]
        ∧ OtherRecordsKept i s.toPart u.toPart ∧ OtherLanesKept n s.toPart u.toPart ∧ SetupKept s.toPart u.toPart
        ∧ u.iu = s.iu ∧ u.ts = s.ts ∧ u.xe.reservations = s.xe.reservations ∧ u.xe.questions = s.xe.questions
        ∧ SameLine s.lif u.lif)
    ∧ (∀ i r a, e.kind = .tracked i → s.record i = some r → r.place = .awarded → s.awardOf i = some a →
      s.xe.notices.length < 8 →
      ∃ u, exec (.laneExitRead n 0 e.fleet) s = .next u
        ∧ u.record i = none ∧ (∀ x ∈ u.du.awards, x.slot ≠ a.slot)
        ∧ (∃ q ∈ u.xe.notices, q.notice = { fleet := a.fleet, slot := a.slot, laneAlias := l.laneAlias,
                                            kind := .departed, tag := s.yc.seconds })
        ∧ ((∀ x ∈ rest, x.kind ≠ .tracked i) → ∃ l', u.lane n = some l' ∧ l'.entries = rest)
        ∧ ((∀ x ∈ rest, x.kind ≠ .tracked i) → s.stationOf i = none →
          (∀ m o, s.lane m = some o → (∀ x ∈ o.entries, x.kind = .tracked i → m = n) ∧ ∀ x ∈ o.allocs, x.record ≠ i) →
          OtherRecordsKept i s.toPart u.toPart ∧ OtherLanesKept n s.toPart u.toPart
          ∧ ∃ l', u.lane n = some l' ∧ l'.allocs = l.allocs)
        ∧ SetupKept s.toPart u.toPart
        ∧ u.fp.replies = s.fp.replies ++ [{ kind := 3, refused := none, payload := .none }])
    ∧ ((e.kind = .outbound ∨ e.kind = .untracked) →
      ∃ u, exec (.laneExitRead n 0 e.fleet) s = .next u
        ∧ (∃ l', u.lane n = some l' ∧ l'.entries = rest ∧ l'.allocs = l.allocs)
        ∧ (∀ j, BothOrNone Rec.SettledTo (s.record j) (u.record j))
        ∧ OtherLanesKept n s.toPart u.toPart ∧ SetupKept s.toPart u.toPart ∧ u.iu = s.iu ∧ u.ts = s.ts
        ∧ u.fp.replies = s.fp.replies ++ [{ kind := 3, refused := none, payload := .none }]))
  ∧ (∀ (n readerEnd : Nat) (l : Lane) (ahead rest : List Entry) (e : Entry) (s : State), s.receives → s.lane n = some l →
    l.entries = ahead ++ e :: rest → (∀ x ∈ ahead, x.fleet ≠ e.fleet) → fleetOk e.fleet = true →
    (readerEnd = 0 ∧ ahead ≠ []) ∨ (readerEnd = 1 ∧ l.type = .through) →
    (∀ i r, e.kind = .tracked i → s.record i = some r → r.place = .parked →
      ∃ u, exec (.laneExitRead n readerEnd e.fleet) s = .next u
        ∧ (∃ l', u.lane n = some l' ∧ l'.entries = ahead.map (fun x => { x with unconfirmed := true }) ++ rest
          ∧ l'.allocs = l.allocs)
        ∧ (∃ r', u.record i = some r' ∧ r'.fleet = r.fleet ∧ r'.place = .loose ∧ r'.destination = none
          ∧ r'.placeTimer = some (30 * 60 * 1000))
        ∧ (∀ x ∈ ahead, ∀ j q, j ≠ i → x.kind = .tracked j → s.record j = some q →
          ∃ q', u.record j = some q' ∧ q'.unconfirmed = true ∧ q'.fleet = q.fleet)
        ∧ (∀ j, j ≠ i → (∀ x ∈ ahead, x.kind ≠ .tracked j) → BothOrNone Rec.SettledTo (s.record j) (u.record j))
        ∧ FirstReport s u (.orderFault l.laneAlias e.fleet (if readerEnd = 1 then .rearExit else .nonFrontExit))
        ∧ u.fp.replies = s.fp.replies ++ [{ kind := 3, refused := none, payload := .none }]
        ∧ OtherLanesKept n s.toPart u.toPart ∧ SetupKept s.toPart u.toPart ∧ u.iu = s.iu ∧ u.ts = s.ts
        ∧ u.xe.reservations = s.xe.reservations ∧ u.xe.questions = s.xe.questions ∧ SameLine s.lif u.lif)
    ∧ (∀ i r a, e.kind = .tracked i → s.record i = some r → r.place = .awarded → s.awardOf i = some a →
      s.xe.notices.length < 8 → (∀ x ∈ ahead ++ rest, x.kind ≠ .tracked i) →
      ∃ u, exec (.laneExitRead n readerEnd e.fleet) s = .next u
        ∧ u.record i = none ∧ (∀ x ∈ u.du.awards, x.slot ≠ a.slot)
        ∧ (∃ q ∈ u.xe.notices, q.notice = { fleet := a.fleet, slot := a.slot, laneAlias := l.laneAlias,
                                            kind := .departed, tag := s.yc.seconds })
        ∧ (∃ l', u.lane n = some l' ∧ l'.entries = ahead.map (fun x => { x with unconfirmed := true }) ++ rest)
        ∧ (∀ x ∈ ahead, ∀ j q, x.kind = .tracked j → s.record j = some q →
          ∃ q', u.record j = some q' ∧ q'.unconfirmed = true ∧ q'.fleet = q.fleet)
        ∧ (u.fp.reports.length < 32 → ∃ q ∈ u.fp.reports, q.tag = s.yc.seconds
          ∧ q.report = .orderFault l.laneAlias e.fleet (if readerEnd = 1 then .rearExit else .nonFrontExit))
        ∧ SetupKept s.toPart u.toPart
        ∧ u.fp.replies = s.fp.replies ++ [{ kind := 3, refused := none, payload := .none }])
    ∧ ((e.kind = .outbound ∨ e.kind = .untracked) →
      ∃ u, exec (.laneExitRead n readerEnd e.fleet) s = .next u
        ∧ (∃ l', u.lane n = some l' ∧ l'.entries = ahead.map (fun x => { x with unconfirmed := true }) ++ rest)
        ∧ FirstReport s u (.orderFault l.laneAlias e.fleet (if readerEnd = 1 then .rearExit else .nonFrontExit))
        ∧ OtherLanesKept n s.toPart u.toPart ∧ SetupKept s.toPart u.toPart ∧ u.iu = s.iu ∧ u.ts = s.ts))

/-- R30: an exit read whose fleet number is not in the lane's list queues an UNKNOWN_EXIT report with the lane alias, the end,
the fleet number and the place state of the record held for it, if one is; nothing else changes. -/
def Obligations.UnknownExitOnlyReports : Prop :=
  ∀ (n e fleet : Nat) (l : Lane) (s : State), s.receives → s.lane n = some l → l.hasReader e = true →
    fleetOk fleet = true → (∀ x ∈ l.entries, x.fleet ≠ fleet) →
    exec (.laneExitRead n e fleet) s
      = .next ({ s with toPart := queueReport (.unknownExit l.laneAlias e fleet (s.placeOfFleet fleet)) s.toPart }.replied 3
          none .none)

/-- LANE_HOLD and LANE_OPEN of a lane that is not in DIG: the lane is HELD and computes STOP, or is OPEN and its aspect is
computed afresh; its list and its allocations stay, and so does everything else but aspects, award limits and outputs; where
the other lanes show what they should, one LANE ASPECT is sent if the lane's displayed aspect changes, and none else. The
computed aspect: STOP of a HELD or an empty lane; else by the front: GO for an AWARDED record, SHUNT for an OUTBOUND entry and
for a record with the shunt flag whose exchange is in HANDOVER, STOP otherwise (an exchange already closed shows STOP by the
model's choice, log entry 38). The displayed aspect is the computed one, but in LOST the one displayed before (fallback HOLD)
or STOP; so LINE_LOST sets it, and LOST_END ends it. Lanes are taken afresh in local-number order (the model's choice, log
entry 57), each change of a displayed aspect sending one LANE ASPECT. -/
def Obligations.LaneIsHeldAndOpened : Prop :=
  (∀ (n : Nat) (l : Lane) (s : State), s.receives → s.lane n = some l → l.state ≠ .dig →
    (∃ u, exec (.laneHold n) s = .next u
      ∧ (∃ l', u.lane n = some l' ∧ l'.state = .held ∧ l'.computed = .stop ∧ l'.displayed = s.shownAspect l .stop
        ∧ l'.configured = l.configured ∧ l'.entries = l.entries ∧ l'.allocs = l.allocs)
      ∧ ((∀ m o, s.lane m = some o → m ≠ n → s.shownAspect o (s.computedAspect o) = o.displayed) →
        s.fp.outputs.length < 62 → u.fp.outputs = s.fp.outputs ++ (if s.shownAspect l .stop = l.displayed then []
          else [.laneAspect n l.laneAlias (s.shownAspect l .stop)]))
      ∧ OtherLanesKept n s.toPart u.toPart
      ∧ u.settings = s.settings ∧ u.identity = s.identity ∧ u.rs = s.rs ∧ u.lif = s.lif ∧ u.xe = s.xe ∧ u.iu = s.iu
      ∧ u.ts = s.ts ∧ u.du.digs = s.du.digs ∧ u.yc = s.yc
      ∧ u.fp.replies = s.fp.replies ++ [{ kind := 13, refused := none, payload := .none }])
    ∧ (∃ u, exec (.laneOpen n) s = .next u
      ∧ (∃ l', u.lane n = some l' ∧ l'.state = .opened ∧ l'.computed = u.computedAspect l'
        ∧ l'.displayed = s.shownAspect l l'.computed ∧ l'.configured = l.configured
        ∧ l'.entries = l.entries ∧ l'.allocs = l.allocs
        ∧ ((∀ m o, s.lane m = some o → m ≠ n → s.shownAspect o (s.computedAspect o) = o.displayed) →
          s.fp.outputs.length < 62 → u.fp.outputs = s.fp.outputs ++ (if l'.displayed = l.displayed then []
            else [.laneAspect n l.laneAlias l'.displayed])))
      ∧ OtherLanesKept n s.toPart u.toPart
      ∧ u.settings = s.settings ∧ u.identity = s.identity ∧ u.rs = s.rs ∧ u.lif = s.lif ∧ u.xe = s.xe ∧ u.iu = s.iu
      ∧ u.ts = s.ts ∧ u.du.digs = s.du.digs ∧ u.yc = s.yc
      ∧ u.fp.replies = s.fp.replies ++ [{ kind := 14, refused := none, payload := .none }]))
  ∧ (∀ s : State, s.lif.lineState ≠ .offline → s.lif.lineState ≠ .lost →
    ∃ u, exec .lineLost s = .next u ∧ ∀ n l, s.lane n = some l →
      ∃ l', u.lane n = some l' ∧ l'.displayed = (if l.fallback = .hold then l.displayed else .stop))
  ∧ (∀ s : State, s.lif.lineState = .lost →
    ∃ u, exec .lostEnd s = .next u ∧ ∀ n l, s.lane n = some l → ∃ l', u.lane n = some l' ∧ l'.displayed = l'.computed)
  ∧ (∀ (p : Part) (l : Lane),
    (l.state = .held → p.computedAspect l = .stop)
    ∧ (l.entries = [] → p.computedAspect l = .stop)
    ∧ (∀ e rest, l.state ≠ .held → l.entries = e :: rest →
      (e.kind = .outbound → p.computedAspect l = .shunt)
      ∧ (e.kind = .untracked → p.computedAspect l = .stop)
      ∧ (∀ i r, e.kind = .tracked i → p.record i = some r →
        (r.place = .awarded → p.computedAspect l = .go)
        ∧ (∀ x ∈ p.xe.exchanges, r.place ≠ .awarded → r.shunt = true → x.record = i → x.state = .handover →
          x.closing = false → p.computedAspect l = .shunt)
        ∧ (r.place ≠ .awarded → (r.shunt = false
            ∨ ∀ x ∈ p.xe.exchanges, x.record ≠ i ∨ x.state ≠ .handover ∨ x.closing = true) →
          p.computedAspect l = .stop)))
    ∧ (∀ c, p.lif.lineState ≠ .lost → p.shownAspect l c = c)
    ∧ (∀ c, p.lif.lineState = .lost → p.shownAspect l c = if l.fallback = .hold then l.displayed else .stop))
  ∧ (∀ (p : Part) (n : Nat) (l : Lane), p.lane n = some l →
    let c := p.computedAspect l
    let d := p.shownAspect l c
    (refreshLane p n).lane n = some { l with computed := c, displayed := d }
    ∧ (∀ m, m ≠ n → (refreshLane p n).lane m = p.lane m)
    ∧ refreshLane p n = { p with lm := (refreshLane p n).lm, fp := (refreshLane p n).fp }
    ∧ (d = l.displayed → (refreshLane p n).fp = p.fp)
    ∧ (d ≠ l.displayed → p.fp.outputs.length < 62 →
      (refreshLane p n).fp = { p.fp with outputs := p.fp.outputs ++ [.laneAspect n l.laneAlias d] })
    ∧ (refreshAspects p).lane n = some { l with computed := c, displayed := d })

/-- An accepted CENSUS replaces the lane's list: the entries carry the listed fleet numbers in the listed order, every flag
clear. Where the old entries name their records and the store has room for every line: a listed record stands here, PARKED, or
AWARDED still; an OUTBOUND entry listed stays so; any other line's bus gets a stray PARKED record, census-flagged, with a
question; the record of an entry not listed becomes LOOSE; and CENSUS_DONE, where the queue takes it, carries the counts. -/
def Obligations.CensusReplacesTheList : Prop :=
  ∀ (n : Nat) (raw : List (Nat × Nat)) (lines : List (Nat × LengthClass)) (l : Lane) (s : State), s.receives →
    s.lane n = some l → readLines raw = some lines → (lines.map (·.1)).Nodup → s.censusBarred n l = false →
    lines.length ≤ 12 → s.censusUnits l lines ≤ l.length →
    ∃ u, exec (.census n raw) s = .next u
      ∧ (∃ l', u.lane n = some l' ∧ l'.entries.map (·.fleet) = lines.map (·.1)
        ∧ (∀ e ∈ l'.entries, e.unconfirmed = false) ∧ l'.configured = l.configured)
      ∧ u.settings = s.settings ∧ u.identity = s.identity
      ∧ u.yc = s.yc ∧ u.fp.replies = s.fp.replies ++ [{ kind := 15, refused := none, payload := .none }]
      ∧ ((∀ e ∈ l.entries, ∀ i, e.kind = .tracked i → ∃ r, s.record i = some r ∧ r.fleet = e.fleet) →
        s.rs.store.length = 96 → s.recordCount + lines.length ≤ 96 →
        (∀ line ∈ lines, ∀ i r, s.findFleet line.1 = some i → s.record i = some r →
          (∃ l', u.lane n = some l' ∧ { fleet := line.1, units := r.lengthClass.units, kind := .tracked i,
                                        unconfirmed := false } ∈ l'.entries)
          ∧ ∃ r', u.record i = some r' ∧ r'.fleet = r.fleet ∧ r'.age = r.age ∧ r'.lastLane = some n
            ∧ (r'.place = .parked ∨ (r.place = .awarded ∧ r'.place = .awarded)))
        ∧ (∀ line ∈ lines, s.findFleet line.1 = none → ∀ e, l.entries.find? (fun x => x.fleet = line.1) = some e →
          e.kind = .outbound →
          ∃ l', u.lane n = some l' ∧ { fleet := line.1, units := e.units, kind := .outbound, unconfirmed := false }
            ∈ l'.entries)
        ∧ (∀ line ∈ lines, s.findFleet line.1 = none →
          (∀ e ∈ l.entries, e.fleet = line.1 → e.kind ≠ .outbound) →
          ∃ i r' l', s.record i = none ∧ u.record i = some r' ∧ r'.fleet = line.1 ∧ r'.lengthClass = line.2
            ∧ r'.place = .parked ∧ r'.stray = true ∧ r'.census = true ∧ r'.age = 0 ∧ r'.energy = none
            ∧ r'.fuel = .unknown
            ∧ (∃ q ∈ u.xe.questions, q.record = i ∧ q.fleet = line.1 ∧ q.gate = false)
            ∧ u.lane n = some l' ∧ { fleet := line.1, units := line.2.units, kind := .tracked i, unconfirmed := false }
              ∈ l'.entries)
        ∧ (∀ e ∈ l.entries, ∀ i, e.kind = .tracked i → (∀ line ∈ lines, line.1 ≠ e.fleet) →
          ∃ r', u.record i = some r' ∧ r'.fleet = e.fleet ∧ r'.place = .loose ∧ r'.placeTimer = some (30 * 60 * 1000))
        ∧ (u.fp.reports.length < 32 → ∃ q ∈ u.fp.reports, q.report = .censusDone l.laneAlias
            (lines.countP fun line => (s.findFleet line.1).isSome)
            (lines.countP fun line => (s.findFleet line.1).isNone
              && !l.entries.any fun e => e.fleet = line.1 ∧ e.kind = .outbound)
            0
            (l.entries.countP fun e => e.kind ≠ .outbound && e.kind ≠ .untracked && !lines.any fun line => line.1 = e.fleet)))

/-- A message of the gate or the lanes that is refused changes nothing but the reply, with the reason that the tests' order
gives; a LANE READ with direction OUT is the exit read of its tag's fleet number, and one with a direction that is no code is
refused with RANGE. That an exit read tests its fleet number is log entry 13's deduction, that the codes of a GATE ARRIVAL and a
CENSUS come before their other tests log entry 42's choice, that reservations count while OFFERING log entry 33's deduction. -/
def Obligations.GateAndLaneMessagesAreRefused : Prop :=
  (∀ (raw : RawTag) (s : State), s.receives →
    (s.iu.gatePresent = false → exec (.gateArrival raw) s = .next (s.replied 2 (some .range) .none))
    ∧ (readRawTag raw = none → exec (.gateArrival raw) s = .next (s.replied 2 (some .range) .none))
    ∧ (∀ t, s.iu.gatePresent = true → readRawTag raw = some t → (s.iu.intake ≠ none ∨ 61 < s.fp.outputs.length) →
      exec (.gateArrival raw) s = .next (s.replied 2 (some .busy) .none)))
  ∧ (∀ (n e fleet : Nat) (raw : RawTag) (s : State), s.receives →
    (s.lane n = none ∨ (∃ l, s.lane n = some l ∧ l.hasReader e = false)) →
    exec (.laneEntryRead n { readerEnd := e, direction := 0 } raw) s = .next (s.replied 3 (some .range) .none)
    ∧ exec (.laneExitRead n e fleet) s = .next (s.replied 3 (some .range) .none))
  ∧ (∀ (n e fleet : Nat) (raw : RawTag) (s : State), s.receives →
    (readRawTag raw = none → exec (.laneEntryRead n { readerEnd := e, direction := 0 } raw) s = .next (s.replied 3 (some .range) .none))
    ∧ (fleetOk fleet = false → exec (.laneExitRead n e fleet) s = .next (s.replied 3 (some .range) .none))
    ∧ exec (.laneEntryRead n { readerEnd := e, direction := 1 } raw) s = exec (.laneExitRead n e raw.fleet) s
    ∧ (∀ direction, 2 ≤ direction →
      exec (.laneEntryRead n { readerEnd := e, direction := direction } raw) s = .next (s.replied 3 (some .range) .none)))
  ∧ (∀ (n : Nat) (s : State), s.receives → s.lane n = none →
    exec (.laneHold n) s = .next (s.replied 13 (some .range) .none)
    ∧ exec (.laneOpen n) s = .next (s.replied 14 (some .range) .none))
  ∧ (∀ (n : Nat) (l : Lane) (s : State), s.receives → s.lane n = some l → l.state = .dig →
    exec (.laneHold n) s = .next (s.replied 13 (some .state) .none)
    ∧ exec (.laneOpen n) s = .next (s.replied 14 (some .state) .none))
  ∧ (∀ (n : Nat) (raw : List (Nat × Nat)) (s : State), s.receives → (s.lane n = none ∨ readLines raw = none) →
    exec (.census n raw) s = .next (s.replied 15 (some .range) .none))
  ∧ (∀ (n : Nat) (raw : List (Nat × Nat)) (lines : List (Nat × LengthClass)) (l : Lane) (s : State), s.receives →
    s.lane n = some l → readLines raw = some lines →
    (¬ (lines.map (·.1)).Nodup → exec (.census n raw) s = .next (s.replied 15 (some .range) .none))
    ∧ ((lines.map (·.1)).Nodup → (l.state = .dig ∨ l.allocs ≠ [] ∨ s.reservedUnits n ≠ []) →
      exec (.census n raw) s = .next (s.replied 15 (some .state) .none))
    ∧ ((lines.map (·.1)).Nodup → l.state ≠ .dig → l.allocs = [] → s.reservedUnits n = [] →
      (12 < lines.length ∨ l.length < s.censusUnits l lines) →
      exec (.census n raw) s = .next (s.replied 15 (some .full) .none)))

/-! ### The service point -/

/-- An APPROACH_READ of an EN_ROUTE record with this point as destination makes it QUEUED at the tail of its level,
stops its place timer, and resolution runs; of a record at the point it reports APPROACH_REPEAT, of any other record or of
none APPROACH_UNEXPECTED, with no change; of a fleet number out of range it is refused with RANGE. That a repeat timer runs on as
the record is QUEUED is the model's choice (log entry 60). -/
def Obligations.ApproachReadIsHandledByPlace : Prop :=
  ∀ (fleet : Nat) (s : State), s.receives → s.ts.kind.isSome = true →
    (fleetOk fleet = false → exec (.approachRead fleet) s = .next (s.replied 4 (some .range) .none))
    ∧ (fleetOk fleet = true → s.findFleet fleet = none →
      exec (.approachRead fleet) s
        = .next ({ s with toPart := queueReport (.approachUnexpected fleet none) s.toPart }.replied 4 none .none))
    ∧ (∀ i r, fleetOk fleet = true → s.findFleet fleet = some i → s.record i = some r →
      (r.place = .enRoute → (∃ k, r.destination = some (.point k)) →
        exec (.approachRead fleet) s
          = .next ({ s with toPart := resolve { s.toPart with
              rs := { s.rs with
                store := s.rs.store.set i (some { r with place := .queued, destination := none, placeTimer := none }) }
              ts := { s.ts with levels := s.ts.levels.modify r.serviceClass fun l => l ++ [i] } } }.replied 4 none .none))
      ∧ (r.place ∈ [.queued, .granted, .inService] →
        exec (.approachRead fleet) s
          = .next ({ s with toPart := queueReport (.approachRepeat fleet) s.toPart }.replied 4 none .none))
      ∧ (r.place ∉ [.queued, .granted, .inService] →
        ¬ (r.place = .enRoute ∧ ∃ k, r.destination = some (.point k)) →
        exec (.approachRead fleet) s
          = .next ({ s with toPart := queueReport (.approachUnexpected fleet (some r.place)) s.toPart }.replied 4
              none .none)))

/-- A start as planned puts the granted record IN_SERVICE at the grant's level and reports nothing. An unscheduled start of a
QUEUED record at a FREE station does so at its request's level, one of an EN_ROUTE record, which has no request yet, at its
service class, one of a record GRANTED at another station at that grant's level, that station becoming FREE; each is reported. A
foreign start takes the fleet number from the message, writes no outcome and is reported; at a FREE station it changes no record.
A wrong-bus start serves the bus named and is reported. The GRANTED record that a wrong-bus start or a foreign one displaces
keeps its lapse count and is QUEUED, first of its level where the point is CLOSED, and may be granted again where it is OPEN. Its
level is its service class (section 6.3), taken at that moment (log entry 18, DEDUCED), as is that of an EN_ROUTE record that is
started. That a repeat timer of the record served runs on is the model's choice (log entry 60). -/
def Obligations.StartsPutTheStationInService : Prop :=
  (∀ (k fleet i : Nat) (st : Station) (r : Rec) (s : State), s.receives → s.station k = some st → st.state = .granted →
    s.stationOf i = some (k, st) → st.record = some i → fleetOk fleet = true → s.startNames fleet = some i →
    s.record i = some r → s.serveable st i = true →
    ∃ u, exec (.stationStart k fleet) s = .next u
      ∧ (∃ st', u.station k = some st' ∧ ServesFrom st' fleet s ∧ st'.record = some i ∧ st'.energyBefore = r.energy
        ∧ (∀ level, st.level = some level → st'.level = some level))
      ∧ u.record i = some { r with place := .inService, destination := none, placeTimer := none }
      ∧ (∀ j, j ≠ i → u.record j = s.record j) ∧ u.requestLevel i = none
      ∧ (s.fp.outputs.length < 62 → u.fp.reports = s.fp.reports)
      ∧ u.lm = s.lm ∧ u.lif = s.lif ∧ u.xe = s.xe ∧ u.iu = s.iu ∧ u.du = s.du ∧ SetupKept s.toPart u.toPart
      ∧ u.fp.replies = s.fp.replies ++ [{ kind := 5, refused := none, payload := .none }])
  ∧ (∀ (k fleet i level : Nat) (st : Station) (r : Rec) (s : State), s.receives → s.station k = some st →
    st.state = .free → s.stationOf i = none → fleetOk fleet = true → s.startNames fleet = some i →
    s.record i = some r → s.serveable st i = true →
    (r.place = .queued ∧ s.requestLevel i = some level)
      ∨ (r.place = .enRoute ∧ s.requestLevel i = none ∧ level = r.serviceClass) →
    ∃ u, exec (.stationStart k fleet) s = .next u
      ∧ (∃ st', u.station k = some st' ∧ ServesFrom st' fleet s ∧ st'.record = some i ∧ st'.energyBefore = r.energy
        ∧ st'.level = some level)
      ∧ u.record i = some { r with place := .inService, destination := none, placeTimer := none }
      ∧ (∀ j, j ≠ i → u.record j = s.record j) ∧ u.requestLevel i = none
      ∧ (s.fp.outputs.length < 62 → FirstReport s u (.unscheduledStart k fleet))
      ∧ u.lm = s.lm ∧ u.lif = s.lif ∧ u.xe = s.xe ∧ u.iu = s.iu ∧ u.du = s.du ∧ SetupKept s.toPart u.toPart
      ∧ u.fp.replies = s.fp.replies ++ [{ kind := 5, refused := none, payload := .none }])
  ∧ (∀ (k fleet : Nat) (st : Station) (s : State), s.receives → s.station k = some st → st.state = .free →
    fleetOk fleet = true → s.startNames fleet = none →
    ∃ u, exec (.stationStart k fleet) s = .next u
      ∧ (∃ st', u.station k = some st' ∧ ServesFrom st' fleet s ∧ st'.record = none ∧ st'.level = none)
      ∧ (s.fp.outputs.length < 62 → FirstReport s u (.foreignStart k fleet (s.placeOfFleet fleet)))
      ∧ u.rs = s.rs ∧ u.lm = s.lm ∧ u.lif = s.lif ∧ u.xe = s.xe ∧ u.iu = s.iu ∧ u.du = s.du
      ∧ SetupKept s.toPart u.toPart
      ∧ u.fp.replies = s.fp.replies ++ [{ kind := 5, refused := none, payload := .none }])
  ∧ (∀ (k m fleet i : Nat) (st sm : Station) (r : Rec) (s : State), s.receives → s.station k = some st →
    st.state = .free → fleetOk fleet = true → s.startNames fleet = some i → s.record i = some r → r.place = .granted →
    s.stationOf i = some (m, sm) → s.serveable st i = true →
    ∃ u, exec (.stationStart k fleet) s = .next u
      ∧ (∃ st', u.station k = some st' ∧ ServesFrom st' fleet s ∧ st'.record = some i ∧ st'.energyBefore = r.energy
        ∧ (∀ level, sm.level = some level → st'.level = some level))
      ∧ u.record i = some { r with place := .inService, destination := none, placeTimer := none }
      ∧ u.requestLevel i = none
      ∧ (∃ sm', u.station m = some sm' ∧ sm'.record ≠ some i
        ∧ (sm'.state = .free ∨ (s.ts.opened = true ∧ sm'.state = .granted)))
      ∧ (s.ts.opened = false → ∀ j, j ≠ i → u.record j = s.record j)
      ∧ (s.fp.outputs.length < 60 → FirstReport s u (.unscheduledStart k fleet))
      ∧ u.lm = s.lm ∧ u.lif = s.lif ∧ u.xe = s.xe ∧ u.iu = s.iu ∧ u.du = s.du ∧ SetupKept s.toPart u.toPart
      ∧ u.fp.replies = s.fp.replies ++ [{ kind := 5, refused := none, payload := .none }])
  ∧ (∀ (k fleet x : Nat) (st : Station) (rx : Rec) (s : State), s.receives → s.station k = some st →
    st.state = .granted → st.record = some x → fleetOk fleet = true → s.startNames fleet = none →
    s.record x = some rx → rx.place = .granted → rx.serviceClass < 8 → s.ts.levels.length = 8 →
    ∃ u, exec (.stationStart k fleet) s = .next u
      ∧ (∃ st', u.station k = some st' ∧ ServesFrom st' fleet s ∧ st'.record = none ∧ st'.level = none)
      ∧ (∃ rx', u.record x = some rx' ∧ rx'.fleet = rx.fleet ∧ rx'.lapses = rx.lapses
        ∧ (rx'.place = .queued ∨ (s.ts.opened = true ∧ rx'.place = .granted)))
      ∧ (s.ts.opened = false → (u.ts.levels.getD rx.serviceClass []).head? = some x
        ∧ ∀ j, j ≠ x → u.record j = s.record j)
      ∧ (s.fp.outputs.length < 60 → FirstReport s u (.foreignStart k fleet (s.placeOfFleet fleet)))
      ∧ u.lm = s.lm ∧ u.lif = s.lif ∧ u.xe = s.xe ∧ u.iu = s.iu ∧ u.du = s.du ∧ SetupKept s.toPart u.toPart
      ∧ u.fp.replies = s.fp.replies ++ [{ kind := 5, refused := none, payload := .none }])
  ∧ (∀ (k fleet i x : Nat) (st : Station) (r rx : Rec) (s : State), s.receives → s.station k = some st →
    st.state = .granted → st.record = some x → x ≠ i → fleetOk fleet = true → s.startNames fleet = some i →
    s.record i = some r → s.serveable st i = true → s.record x = some rx → rx.place = .granted → rx.serviceClass < 8 →
    s.ts.levels.length = 8 →
    ∃ u, exec (.stationStart k fleet) s = .next u
      ∧ (∃ st', u.station k = some st' ∧ ServesFrom st' fleet s ∧ st'.record = some i ∧ st'.energyBefore = r.energy)
      ∧ u.record i = some { r with place := .inService, destination := none, placeTimer := none }
      ∧ u.requestLevel i = none
      ∧ (∃ rx', u.record x = some rx' ∧ rx'.fleet = rx.fleet ∧ rx'.lapses = rx.lapses
        ∧ (rx'.place = .queued ∨ (s.ts.opened = true ∧ rx'.place = .granted)))
      ∧ (s.ts.opened = false → (u.ts.levels.getD rx.serviceClass []).head? = some x
        ∧ ∀ j, j ≠ i → j ≠ x → u.record j = s.record j)
      ∧ (s.fp.outputs.length < 60 → FirstReport s u (.wrongBus k fleet rx.fleet))
      ∧ u.lm = s.lm ∧ u.lif = s.lif ∧ u.xe = s.xe ∧ u.iu = s.iu ∧ u.du = s.du ∧ SetupKept s.toPart u.toPart
      ∧ u.fp.replies = s.fp.replies ++ [{ kind := 5, refused := none, payload := .none }])

/-- The end of a turn with a record writes its outcome. After NORMAL and BUS_FAULT the record is SERVED and the station FREE,
or granted again by the resolution that follows; after STATION_FAULT the station is FAULT and the record is retried: where its
retry count is below the retry limit and the queue has a free place, the count rises and the record is QUEUED on the retry
order at the turn's level (or granted from it at once), else it is SERVED, with RETRY_NO_PLACE where the place alone is wanting
(none at the retry limit is the model's choice, log entry 44). A NORMAL end of fuelling takes
the energy the message carries, one of washing sets washed. A NORMAL end turns a ROTATING priority order until the turn's level
stands last; no other end changes it. The routing rule calls for a record that is SERVED: WASH after fuelling where a wash is
due, not done and not skipped, and the window open, else BERTH. TURN_OUTCOME carries the outcome; END_MISMATCH, where the message
names another bus than the station carries, comes before it (log entry 51, DESIGN CHOICE). An end at a station that is not
IN_SERVICE queues STRAY_END, and nothing else in the yard changes. The end of a foreign turn writes no outcome: it queues FOREIGN_END,
and the station is FREE after NORMAL and BUS_FAULT, or granted at once by the resolution that follows, and FAULT after
STATION_FAULT. -/
def Obligations.TurnEndWritesTheOutcome : Prop :=
  (∀ (k fleet code energy i : Nat) (kind : ServiceKind) (e : EndKind) (st : Station) (r : Rec) (s : State), s.receives →
    s.ts.kind = some kind → s.station k = some st → st.state = .inService → st.record = some i → s.record i = some r →
    s.requestLevel i = none → readStationEnd code = some e →
    ∃ u, exec (.stationEnd k fleet code energy) s = .next u
      ∧ (∃ r', u.record i = some r' ∧ r'.fleet = r.fleet
        ∧ r'.energy = (if e = .normal ∧ kind = .fuel then (readEnergy energy).or r.energy else r.energy)
        ∧ r'.washed = (r.washed || decide (e = .normal ∧ kind = .wash))
        ∧ r'.outcome = some { service := kind, station := k, level := st.level.getD 0, startTag := some st.startTag,
                              endTag := s.yc.seconds, endKind := e, retriesUsed := r.retries,
                              energyBefore := st.energyBefore, energyAfter := r'.energy }
        ∧ (∀ o, r'.outcome = some o →
          (fleet = st.fleet → FirstReport s u (.turnOutcome r.fleet o))
          ∧ (fleet ≠ st.fleet → FirstReport s u (.endMismatch k st.fleet fleet) ∧ ReportAt 1 s u (.turnOutcome r.fleet o)))
        ∧ (e ≠ .stationFault → r'.place = .served ∧ r'.lapses = 0 ∧ r'.retries = 0)
        ∧ (e = .stationFault → r.retries < s.ts.retryLimit → s.queuePlaces < 16 → r'.retries = r.retries + 1 ∧ r'.lapses = r.lapses
          ∧ (r'.place = .queued ∨ (s.ts.opened = true ∧ r'.place = .granted))
          ∧ (r'.place = .queued → (i, st.level.getD 0) ∈ u.ts.retryOrder)
          ∧ (s.ts.opened = false → u.ts.retryOrder = s.ts.retryOrder ++ [(i, st.level.getD 0)]))
        ∧ (e = .stationFault → s.ts.retryLimit ≤ r.retries ∨ 16 ≤ s.queuePlaces →
          r'.place = .served ∧ r'.lapses = 0 ∧ r'.retries = 0)
        ∧ (e = .stationFault → r.retries < s.ts.retryLimit → 16 ≤ s.queuePlaces → s.fp.reports.length < 30 →
          { report := .retryNoPlace r.fleet, tag := s.yc.seconds } ∈ u.fp.reports))
      ∧ (∃ st', u.station k = some st'
        ∧ (e = .stationFault → st'.state = .fault ∧ st'.record = none ∧ st'.timer = none)
        ∧ (e ≠ .stationFault → st'.state = .free ∨ st'.state = .granted)
        ∧ (e ≠ .stationFault → s.ts.opened = false → st'.state = .free ∧ st'.record = none ∧ st'.timer = none))
      ∧ (s.ts.rotating = true → e = .normal → ∀ before after, s.ts.order = before ++ st.level.getD 0 :: after →
        st.level.getD 0 ∉ before → st.level.getD 0 ∉ after → u.ts.order = after ++ before ++ [st.level.getD 0])
      ∧ ((s.ts.rotating = false ∨ e ≠ .normal) → u.ts.order = s.ts.order)
      ∧ (e ≠ .stationFault → r.shunt = false → s.exchangeOf i = none → s.du.digs = [] →
        ∀ id, s.freeExchangeId = some id →
          ∃ x ∈ u.xe.exchanges, x.id = id ∧ x.record = i ∧ x.requester = .rs ∧ x.closing = false
            ∧ x.kind = (if kind = .fuel ∧ r.washDue = true ∧ r.washed = false ∧ r.washSkipped = false
                          ∧ s.yc.washOpen = true then .wash else .berth))
      ∧ (∀ n, BothOrNone Lane.SettledTo (s.lane n) (u.lane n)) ∧ SetupKept s.toPart u.toPart ∧ u.iu = s.iu
      ∧ u.xe.reservations = s.xe.reservations ∧ u.xe.questions = s.xe.questions ∧ SameLine s.lif u.lif
      ∧ u.fp.replies = s.fp.replies ++ [{ kind := 6, refused := none, payload := .none }])
  ∧ (∀ (k fleet code energy : Nat) (e : EndKind) (st : Station) (s : State), s.receives → s.station k = some st →
    st.state ≠ .inService → readStationEnd code = some e →
    ∃ u, exec (.stationEnd k fleet code energy) s = .next u
      ∧ FirstReport s u (.strayEnd k fleet e) ∧ YardKept s.toPart u.toPart
      ∧ u.xe.reservations = s.xe.reservations ∧ u.xe.questions = s.xe.questions ∧ u.xe.memory = s.xe.memory
      ∧ SameLine s.lif u.lif
      ∧ u.fp.replies = s.fp.replies ++ [{ kind := 6, refused := none, payload := .none }])
  ∧ (∀ (k fleet code energy : Nat) (e : EndKind) (st : Station) (s : State), s.receives → s.station k = some st →
    st.state = .inService → st.record = none → readStationEnd code = some e →
    ∃ u, exec (.stationEnd k fleet code energy) s = .next u
      ∧ (∃ st', u.station k = some st' ∧ st'.fuel = st.fuel
        ∧ (e = .stationFault → st'.state = .fault)
        ∧ (e ≠ .stationFault → st'.state = .free ∨ (s.ts.opened = true ∧ st'.state = .granted))
        ∧ (st'.state ≠ .granted → st'.record = none ∧ st'.timer = none))
      ∧ (s.fp.outputs.length < 62 →
        FirstReport s u (.foreignEnd k st.fleet e st.startTag s.yc.seconds (readEnergy energy)))
      ∧ (∀ j r, s.record j = some r → ∃ r', u.record j = some r' ∧ r'.fleet = r.fleet ∧ r'.outcome = r.outcome
        ∧ r'.energy = r.energy ∧ r'.washed = r.washed ∧ r'.retries = r.retries ∧ r'.lapses = r.lapses)
      ∧ (e = .stationFault ∨ s.ts.opened = false →
        ∀ j, BothOrNone Rec.SettledTo (s.record j) (u.record j))
      ∧ u.ts.order = s.ts.order
      ∧ (∀ n, BothOrNone Lane.SettledTo (s.lane n) (u.lane n)) ∧ SetupKept s.toPart u.toPart ∧ u.iu = s.iu
      ∧ u.xe.reservations = s.xe.reservations ∧ u.xe.questions = s.xe.questions ∧ SameLine s.lif u.lif
      ∧ u.fp.replies = s.fp.replies ++ [{ kind := 6, refused := none, payload := .none }])

/-- STATION_CLEAR of a FAULT station makes it FREE, and resolution may grant it at once; on a CLOSED point it stays FREE and
no record changes. Resolution takes the first request of the retry order that is QUEUED, served and of a level not held, else
the first such of the first level of the priority order that is not held and has one; the grant takes the request out of the
request set, makes the record GRANTED and the station GRANTED with its fleet number, its level and the grant limit, and shows
CALL. A repeat timer of the record granted
runs on (the model's choice, log entry 60). -/
def Obligations.ClearedStationIsFree : Prop :=
  (∀ (k : Nat) (st : Station) (s : State), s.receives → s.station k = some st → st.state = .fault →
    ∃ u, exec (.stationClear k) s = .next u
      ∧ (∃ st', u.station k = some st' ∧ (st'.state = .free ∨ st'.state = .granted) ∧ st'.fuel = st.fuel)
      ∧ (s.ts.opened = false → u.station k = some { st with state := .free } ∧ u.rs = s.rs)
      ∧ u.lm = s.lm ∧ u.lif = s.lif ∧ u.xe = s.xe ∧ u.iu = s.iu ∧ u.du = s.du ∧ SetupKept s.toPart u.toPart
      ∧ u.fp.replies = s.fp.replies ++ [{ kind := 7, refused := none, payload := .none }])
  ∧ (∀ (p : Part) (st : Station) (fits : Nat → Bool),
    (∀ i, fits i = (p.recordIs i .queued && (p.record i).any fun r => p.serves st r.fuel)) →
    (∀ before i level after, p.ts.retryOrder = before ++ (i, level) :: after → level ∉ p.ts.heldLevels → fits i = true →
      (∀ q ∈ before, q.2 ∈ p.ts.heldLevels ∨ fits q.1 = false) → p.choose st = some (i, level))
    ∧ ((∀ q ∈ p.ts.retryOrder, q.2 ∈ p.ts.heldLevels ∨ fits q.1 = false) →
      (∀ before level after ahead i rest, p.ts.order = before ++ level :: after → level ∉ p.ts.heldLevels →
        p.ts.levels[level]? = some (ahead ++ i :: rest) → fits i = true → (∀ j ∈ ahead, fits j = false) →
        (∀ m ∈ before, m ∈ p.ts.heldLevels ∨ ∀ j ∈ p.ts.levels.getD m [], fits j = false) →
        p.choose st = some (i, level))
      ∧ ((∀ m ∈ p.ts.order, m ∈ p.ts.heldLevels ∨ ∀ j ∈ p.ts.levels.getD m [], fits j = false) →
        p.choose st = none)))
  ∧ (∀ (p : Part) (k i level : Nat) (st : Station) (r : Rec), p.station k = some st → st.state = .free →
    p.choose st = some (i, level) → p.record i = some r →
    (resolveStation p k).record i = some { r with place := .granted }
    ∧ (∀ j, j ≠ i → (resolveStation p k).record j = p.record j)
    ∧ (resolveStation p k).requestLevel i = none
    ∧ (resolveStation p k).station k = some { st with
        state := .granted, record := some i, fleet := r.fleet, level := some level, startTag := 0, energyBefore := none
        timer := some p.ts.grantLimit }
    ∧ (p.fp.outputs.length < 62 → (resolveStation p k).fp.outputs
        = p.fp.outputs ++ [.stationDisplay k .call r.fleet st.guidance]))
  ∧ (∀ (p : Part) (k : Nat) (st : Station), p.station k = some st → st.state ≠ .free ∨ p.choose st = none →
    resolveStation p k = p)
  ∧ (∀ p : Part, resolve p = if p.ts.kind.isSome = true ∧ p.ts.opened = true
      then ((List.range p.ts.stations.length).map (· + 1)).foldl resolveStation p else p)

/-- The point commands of a node with a point: closing changes the point's state alone; opening a CLOSED point and releasing
a held level run resolution; holding marks a level; a level above 7 is taken as 7. -/
def Obligations.PointAndLevelCommandsAct : Prop :=
  ∀ s : State, s.receives → s.ts.kind.isSome = true →
    exec .pointClose s = .next ({ s with ts := { s.ts with opened := false } }.replied 9 none .none)
    ∧ (s.ts.opened = true → exec .pointOpen s = .next (s.replied 8 none .none))
    ∧ (s.ts.opened = false →
      exec .pointOpen s
        = .next ({ s with toPart := resolve { s.toPart with ts := { s.ts with opened := true } } }.replied 8 none .none))
    ∧ (∀ level, min level 7 ∈ s.ts.heldLevels → exec (.levelHold level) s = .next (s.replied 10 none .none))
    ∧ (∀ level, min level 7 ∉ s.ts.heldLevels →
      exec (.levelHold level) s
        = .next ({ s with ts := { s.ts with heldLevels := s.ts.heldLevels ++ [min level 7] } }.replied 10 none .none))
    ∧ (∀ level, min level 7 ∉ s.ts.heldLevels → exec (.levelRelease level) s = .next (s.replied 11 none .none))
    ∧ (∀ level, min level 7 ∈ s.ts.heldLevels →
      exec (.levelRelease level) s
        = .next ({ s with toPart := resolve { s.toPart with ts := { s.ts with
            heldLevels := s.ts.heldLevels.filter (fun l => l ≠ min level 7) } } }.replied 11 none .none))

/-- NEXT changes nothing and answers the point state, and for each fuel kind among the stations the fleet number that a
station of that kind would take and the number of FREE stations of that kind; a WASH point answers once for all stations,
in the D group (section 12.5). -/
def Obligations.NextNamesTheChoice : Prop :=
  ∀ s : State, s.receives →
    (s.ts.kind = some .fuel →
      ∃ d g, exec .nextRequest s = .next (s.replied 12 none (.next s.ts.opened
          d (s.ts.stations.countP fun st => st.fuel = some .d ∧ st.state = .free)
          g (s.ts.stations.countP fun st => st.fuel = some .g ∧ st.state = .free)))
        ∧ (∀ st ∈ s.ts.stations, st.fuel = some .d → d = chosenFleet s st)
        ∧ (∀ st ∈ s.ts.stations, st.fuel = some .g → g = chosenFleet s st)
        ∧ ((∀ st ∈ s.ts.stations, st.fuel ≠ some .d) → d = 0)
        ∧ ((∀ st ∈ s.ts.stations, st.fuel ≠ some .g) → g = 0))
    ∧ (s.ts.kind = some .wash →
      ∃ d, exec .nextRequest s = .next (s.replied 12 none (.next s.ts.opened
          d (s.ts.stations.countP fun st => st.state = .free) 0 0))
        ∧ (∀ st ∈ s.ts.stations, d = chosenFleet s st))

/-- The grant limit of a GRANTED station: a first lapse counts and puts the record back in the queue, where resolution may
grant it again; a second one ends the turn LAPSED, without a start tag, and the record is SERVED. -/
def Obligations.GrantLimitLapses : Prop :=
  ∀ (k i x : Nat) (kind : ServiceKind) (st : Station) (r : Rec) (s : State), s.ts.kind = some kind →
    s.station k = some st → st.state = .granted → st.record = some i → st.timer = some x → s.record i = some r →
    s.requestLevel i = none →
    (r.lapses = 0 → r.place = .granted →
      ∃ u, exec (.grantLimitExpiry k) s = .next u
        ∧ (∃ r', u.record i = some r' ∧ r'.fleet = r.fleet ∧ r'.lapses = 1 ∧ r'.outcome = r.outcome
          ∧ (r'.place = .queued ∨ r'.place = .granted) ∧ (s.ts.opened = false → r'.place = .queued))
        ∧ (s.ts.opened = false → ∃ st', u.station k = some st' ∧ st'.state = .free ∧ st'.record = none)
        ∧ (∀ n, BothOrNone Lane.SettledTo (s.lane n) (u.lane n)) ∧ SetupKept s.toPart u.toPart ∧ u.iu = s.iu
        ∧ u.xe.reservations = s.xe.reservations ∧ SameLine s.lif u.lif)
    ∧ (1 ≤ r.lapses →
      ∃ u, exec (.grantLimitExpiry k) s = .next u
        ∧ (∃ r', u.record i = some r' ∧ r'.fleet = r.fleet ∧ r'.place = .served ∧ r'.lapses = 0 ∧ r'.retries = 0
          ∧ r'.outcome = some { service := kind, station := k, level := st.level.getD 0, startTag := none,
                                endTag := s.yc.seconds, endKind := .lapsed, retriesUsed := r.retries,
                                energyBefore := r.energy, energyAfter := r.energy })
        ∧ (∀ n, BothOrNone Lane.SettledTo (s.lane n) (u.lane n)) ∧ SetupKept s.toPart u.toPart ∧ u.iu = s.iu
        ∧ u.xe.reservations = s.xe.reservations ∧ SameLine s.lif u.lif)

/-- The overrun limit of an IN_SERVICE station makes it FAULT. A turn with a record ends with kind OVERRUN, no energy taken
and washed unchanged, and the record is retried as after STATION_FAULT: QUEUED on the retry order at the turn's level, its retry
count raised, where the retry limit and a free queue place allow it, else SERVED, with RETRY_NO_PLACE where the place alone is
wanting (none at the retry limit is the model's choice, log entry 44). A foreign turn changes no record and queues FOREIGN_END,
without an energy (log entry 52, DESIGN CHOICE). -/
def Obligations.OverrunLimitFaultsTheStation : Prop :=
  ∀ (k x : Nat) (kind : ServiceKind) (st : Station) (s : State), s.ts.kind = some kind → s.station k = some st →
    st.state = .inService → st.timer = some x →
    ∃ u, exec (.overrunLimitExpiry k) s = .next u
      ∧ (∃ st', u.station k = some st' ∧ st'.state = .fault ∧ st'.record = none ∧ st'.timer = none ∧ st'.fuel = st.fuel)
      ∧ (∀ i r, st.record = some i → s.record i = some r →
        ∃ r', u.record i = some r' ∧ r'.fleet = r.fleet ∧ r'.energy = r.energy ∧ r'.washed = r.washed
          ∧ r'.outcome = some { service := kind, station := k, level := st.level.getD 0, startTag := some st.startTag,
                                endTag := s.yc.seconds, endKind := .overrun, retriesUsed := r.retries,
                                energyBefore := st.energyBefore, energyAfter := r.energy }
        ∧ (r.retries < s.ts.retryLimit → s.queuePlaces < 16 → r'.retries = r.retries + 1 ∧ r'.lapses = r.lapses
          ∧ (r'.place = .queued ∨ (s.ts.opened = true ∧ r'.place = .granted))
          ∧ (r'.place = .queued → (i, st.level.getD 0) ∈ u.ts.retryOrder)
          ∧ (s.ts.opened = false → u.ts.retryOrder = s.ts.retryOrder ++ [(i, st.level.getD 0)]))
        ∧ (s.ts.retryLimit ≤ r.retries ∨ 16 ≤ s.queuePlaces →
          r'.place = .served ∧ r'.lapses = 0 ∧ r'.retries = 0)
        ∧ (r.retries < s.ts.retryLimit → 16 ≤ s.queuePlaces → s.fp.reports.length < 30 →
          { report := .retryNoPlace r.fleet, tag := s.yc.seconds } ∈ u.fp.reports))
      ∧ (st.record = none → u.rs = s.rs ∧ u.xe = s.xe ∧ u.lif = s.lif
        ∧ (s.fp.outputs.length < 62 → FirstReport s u (.foreignEnd k st.fleet .overrun st.startTag s.yc.seconds none)))
      ∧ (∀ n, BothOrNone Lane.SettledTo (s.lane n) (u.lane n)) ∧ SetupKept s.toPart u.toPart ∧ u.iu = s.iu
      ∧ u.xe.reservations = s.xe.reservations ∧ SameLine s.lif u.lif

/-- A message of the service point that is refused changes nothing but the reply: with RANGE where the point, the station or
a code is not there, with STATE where the station's state or the bus's fuel kind forbids it. That the reply to a refused NEXT
carries its kind and result alone is the model's choice (log entry 53). -/
def Obligations.ServicePointMessagesAreRefused : Prop :=
  (∀ (level : Nat) (fleet : Nat) (s : State), s.receives → s.ts.kind = none →
    exec (.approachRead fleet) s = .next (s.replied 4 (some .range) .none)
    ∧ exec .pointOpen s = .next (s.replied 8 (some .range) .none)
    ∧ exec .pointClose s = .next (s.replied 9 (some .range) .none)
    ∧ exec (.levelHold level) s = .next (s.replied 10 (some .range) .none)
    ∧ exec (.levelRelease level) s = .next (s.replied 11 (some .range) .none)
    ∧ exec .nextRequest s = .next (s.replied 12 (some .range) .none))
  ∧ (∀ (k fleet code energy : Nat) (s : State), s.receives → s.station k = none →
    exec (.stationStart k fleet) s = .next (s.replied 5 (some .range) .none)
    ∧ exec (.stationEnd k fleet code energy) s = .next (s.replied 6 (some .range) .none)
    ∧ exec (.stationClear k) s = .next (s.replied 7 (some .range) .none))
  ∧ (∀ (k fleet code energy : Nat) (s : State), s.receives →
    (fleetOk fleet = false → exec (.stationStart k fleet) s = .next (s.replied 5 (some .range) .none))
    ∧ (2 < code → exec (.stationEnd k fleet code energy) s = .next (s.replied 6 (some .range) .none)))
  ∧ (∀ (k fleet : Nat) (st : Station) (s : State), s.receives → s.station k = some st →
    (fleetOk fleet = true → (st.state = .fault ∨ st.state = .inService) →
      exec (.stationStart k fleet) s = .next (s.replied 5 (some .state) .none))
    ∧ (∀ i, fleetOk fleet = true → st.state ≠ .fault → st.state ≠ .inService → s.startNames fleet = some i →
      s.serveable st i = false → exec (.stationStart k fleet) s = .next (s.replied 5 (some .state) .none))
    ∧ (st.state ≠ .fault → exec (.stationClear k) s = .next (s.replied 7 (some .state) .none)))

/-! ### Bids -/

/-- R147: a bid's bus met every condition of eligibility when the bid was named, and its cost is the sum of the depth, surplus,
rest and weight terms, within 0 to 33439; it is the cost of the offer that a valid SLOT CALL draws. -/
def Obligations.BidCostIsTheDepartureCost : Prop :=
  ∀ (p : Part) (c : SlotCall) (i : Nat), (∀ j r E, p.record j = some r → r.energy = some E → E ≤ 100) →
    (∀ n l, p.lane n = some l → l.weight ≤ 63) → p.nameBid c = some i →
    p.eligible c i = true
      ∧ (∃ r n k l d E, p.record i = some r ∧ p.entryOf i = some (n, k) ∧ p.lane n = some l ∧ p.depth i = some d
        ∧ r.energy = some E ∧ d ≤ 3 ∧ c.eMin ≤ E
        ∧ p.bidCost c i = d * 4096 + (E - c.eMin) * 40 + (1023 - r.age) + l.weight * 256
        ∧ p.bidCost c i ≤ 33439)
      ∧ (∀ w : WindowCall, w.content = some (.slot c) → c.valid = true →
        ∃ o, p.named w = some o ∧ o.cost = p.bidCost c i ∧ o.item = i)

/-! ### What frames carry -/

/-- The bytes of an image, and the body of a call for a bus, carry every field: the image of a record in range is read back
as it is, 17 bytes long, and a call's body gives back the fleet number, fuel kind, length class, energy and excluded lane
alias of its record. -/
def Obligations.ImagesAndCallsKeepTheirFields : Prop :=
  (∀ m : Image, m.InRange → m.encode.length = 17 ∧ decodeImage m.encode = some m)
  ∧ (∀ (id limit : Nat) (r : Rec) (shunt : Bool) (excluded : Option Nat), fleetOk r.fleet = true →
    1 ≤ limit → limit ≤ 2 → (∀ k, r.energy = some k → k ≤ 100) → (∀ k, excluded = some k → 1 ≤ k ∧ k ≤ 255) →
    decodeBusCall (encodeBusCall id limit r shunt excluded)
      = some { fleet := r.fleet, fuel := r.fuel, lengthClass := r.lengthClass, energy := r.energy,
               excluded := excluded })

/-! ### Frames heard -/

/-- A TIME MARK that fits and that no station flawed, in any line state in which the line is read: one above 86399 changes no
clock field, one that is valid is adopted where the clock is not set or differs by 2 s or more, and changes nothing of the
clock else. In OFFLINE the line is not read; in LOST no frame is handed on, and at most the Line Interface changes. -/
def Obligations.TimeMarkIsAdopted : Prop :=
  ∀ (f : RxFrame) (s : State), frameFits 0 f.body = true → f.flaw = false →
    (s.lif.lineState = .offline → exec (.timeMarkReceived f) s = .next s)
    ∧ (s.lif.lineState = .lost →
      ∃ l, exec (.timeMarkReceived f) s = .next { s with lif := l } ∧ l.lineState = .lost ∧ l.counters = s.lif.counters)
    ∧ (s.lif.lineState ≠ .offline → s.lif.lineState ≠ .lost →
      ∃ u, exec (.timeMarkReceived f) s = .next u
        ∧ (86399 < wordAt f.body 0 3 → u.yc = s.yc)
        ∧ (wordAt f.body 0 3 ≤ 86399 →
          s.yc.isSet = false ∨ 2 ≤ dayDifference (wordAt f.body 0 3) s.yc.seconds →
          u.yc.seconds = wordAt f.body 0 3 ∧ u.yc.partMs = 0 ∧ u.yc.isSet = true)
        ∧ (wordAt f.body 0 3 ≤ 86399 → s.yc.isSet = true → dayDifference (wordAt f.body 0 3) s.yc.seconds < 2 →
          u.yc = s.yc)
        ∧ u.settings = s.settings ∧ u.identity = s.identity ∧ u.fp.replies = s.fp.replies)

/-- A delivered call addressed to all opens the offer window PENDING with its caller, exchange id and reopen limit; an earlier
reservation of that caller and id is gone, one of this window being only OFFERING; the yard is as it was. The quiet timer
stands at the recessive bits that the frame ended with, its acknowledgement slot having been driven, and the gap at those of its
end field. -/
def Obligations.DeliveredCallOpensTheWindow : Prop :=
  ∀ (f : RxFrame) (s : State), s.Listens → f.flaw = false → f.addressee = 0 →
    ∀ p ∈ [(Instr.slotCallReceived f, CallFrameKind.slot), (.berthCallReceived f, .berth), (.fuelCallReceived f, .fuel),
           (.washCallReceived f, .wash)],
      frameFits p.2.code f.body = true →
      ∃ u, exec p.1 s = .next u
        ∧ u.lif.window = { cond := .pending
                           call := some { kind := p.2, caller := f.node, callId := byteAt f.body 0,
                                          limit := max 1 (min (byteAt f.body 1) 2), content := decodeCall p.2 f.body }
                           reopens := 0 }
        ∧ u.lif.lineState = .active ∧ u.lif.droveAck = true ∧ u.lif.droveFlaw = false
        ∧ u.lif.quiet = recessiveRun (closingBits true false f.endBits) ∧ u.lif.gap = recessiveRun (endField f.endBits)
        ∧ u.lif.rx = []
        ∧ (∀ r ∈ u.xe.reservations, r.caller = f.node → r.callId = byteAt f.body 0 → r.held = false)
        ∧ (∀ r ∈ s.xe.reservations, ¬ (r.caller = f.node ∧ r.callId = byteAt f.body 0) → r ∈ u.xe.reservations)
        ∧ YardKept s.toPart u.toPart ∧ u.xe.questions = s.xe.questions ∧ u.xe.memory = s.xe.memory
        ∧ u.fp.replies = s.fp.replies

/-- A delivered call on which the node may make an offer draws the one that the block of its kind names; its OFFER takes the
transmit place, what it offers is reserved, OFFERING. A BERTH CALL draws the candidate lane of least berth cost, then of least
number; the cost is the base, the leftover, the mix, the front and the weight terms, at most 65535, and a candidate is OPEN, not the
excluded one, confirmed at its front, with room and a place free. A FUEL or WASH CALL draws the point where it is OPEN, of the
call's kind, serves it, and has a queue place free (and, for a WASH CALL, the wash window is open), at the cost (P + B) × 64 / A;
else none. A valid SLOT CALL draws the eligible record of least departure cost, then of least index; the conditions of eligibility
are R146's (an exchange that R73 has closed is no open one, log entry 17). A slot number above 4095 is taken as any other (the model's choice, log entry 65). A call whose slot or due minute is out of range draws
none and is reported. That a SLOT CALL with fuel code 2, UNKNOWN, fits is the model's choice (log entry 70). While a claim answer waits for the transmit place, no call draws an offer (R43, R59). -/
def Obligations.BerthCallDrawsTheCheapestLane : Prop :=
  (∀ (f : RxFrame) (s : State), s.Listens → f.flaw = false → f.addressee = 0 → s.lif.tx = none →
    s.lif.claimAnswer = none → s.reservation f.node (byteAt f.body 0) = none → s.recordCount < 96 →
    s.xe.reservations.length < 4 →
    (∀ b n, decodeBusCall f.body = some b → s.nameBerth b = some n →
      ∃ u, exec (.berthCallReceived f) s = .next u
        ∧ u.xe.reservations = s.xe.reservations
            ++ [{ caller := f.node, callId := byteAt f.body 0, kind := .berth, resource := .berth n b.lengthClass.units,
                  held := false, timer := none }]
        ∧ (∃ t, u.lif.tx = some t ∧ t.key = .offer ∧ t.sending = false
          ∧ t.frame = { kind := 6, cost := s.berthCostAt b n, node := s.lif.nodeNumber, item := n, addressee := 0,
                        body := [byte f.node, byte (byteAt f.body 0), byte (s.aliasOf n)] })
        ∧ s.candidate b n = true ∧ (∀ m, s.candidate b m = true →
          s.berthCostAt b n ≤ s.berthCostAt b m ∧ (m < n → s.berthCostAt b n < s.berthCostAt b m))
        ∧ YardKept s.toPart u.toPart)
    ∧ (∀ b, decodeBusCall f.body = some b → ∀ x ∈ [(Instr.fuelCallReceived f, ServiceKind.fuel, CallFrameKind.fuel),
        (.washCallReceived f, .wash, .wash)],
      let serving := s.ts.stations.filter fun st =>
        x.2.1 = .wash ∨ (st.fuel = some b.fuel ∧ b.fuel ≠ .unknown)
      let available := serving.countP fun st => st.state ≠ .fault
      let busy := serving.countP fun st => st.state = .granted ∨ st.state = .inService
      let names := s.ts.kind = some x.2.1 ∧ s.ts.opened = true ∧ 1 ≤ available ∧ s.queuePlaces < 16
        ∧ (x.2.1 = .wash → s.yc.washOpen = true)
      ∃ u, exec x.1 s = .next u ∧ YardKept s.toPart u.toPart
        ∧ (names → u.xe.reservations = s.xe.reservations
              ++ [{ caller := f.node, callId := byteAt f.body 0, kind := x.2.2, resource := .place x.2.1 b.fuel,
                    held := false, timer := none }]
          ∧ ∃ t, u.lif.tx = some t ∧ t.key = .offer ∧ t.sending = false
            ∧ t.frame = { kind := 6, cost := (s.queuePlaces + busy) * 64 / available, node := s.lif.nodeNumber, item := 0,
                          addressee := 0, body := [byte f.node, byte (byteAt f.body 0)] })
        ∧ (¬ names → u.xe.reservations = s.xe.reservations))
    ∧ (∀ c, decodeSlotCall f.body = some c → s.awardOfSlot c.slot = none →
      (∀ i, c.slot ≠ 0 → c.due ≤ 1439 → s.nameBid c = some i →
        ∃ u, exec (.slotCallReceived f) s = .next u
          ∧ u.xe.reservations = s.xe.reservations
              ++ [{ caller := f.node, callId := byteAt f.body 0, kind := .slot, resource := .bid i (s.fleetOf i),
                    held := false, timer := none }]
          ∧ (∃ t, u.lif.tx = some t ∧ t.key = .offer ∧ t.sending = false
            ∧ t.frame = { kind := 6, cost := s.bidCost c i, node := s.lif.nodeNumber, item := i, addressee := 0,
                          body := [byte f.node, byte (byteAt f.body 0)] ++ toBytes 2 (s.fleetOf i) ++ toBytes 2 c.slot })
          ∧ s.eligible c i = true ∧ (∀ j, j < 96 → s.eligible c j = true →
            s.bidCost c i ≤ s.bidCost c j ∧ (j < i → s.bidCost c i < s.bidCost c j))
          ∧ YardKept s.toPart u.toPart)
      ∧ ((c.slot = 0 ∨ 1439 < c.due) → f.node ≠ s.lif.nodeNumber →
        ∃ u, exec (.slotCallReceived f) s = .next u ∧ u.xe.reservations = s.xe.reservations
          ∧ FirstReport s u (.slotCallInvalid c.slot c.due f.node) ∧ YardKept s.toPart u.toPart)))
  ∧ (∀ (f : RxFrame) (s : State), s.Listens → f.flaw = false → f.addressee = 0 → s.lif.claimAnswer ≠ none →
    s.reservation f.node (byteAt f.body 0) = none →
    ∀ c ∈ [Instr.slotCallReceived f, .berthCallReceived f, .fuelCallReceived f, .washCallReceived f],
      ∃ u, exec c s = .next u ∧ u.xe.reservations = s.xe.reservations)
  ∧ (∀ (p : Part) (b : BusCall) (n : Nat) (l : Lane) (near : Option Entry), p.lane n = some l →
    near = (if l.type = .deadEnd then l.entries.head? else l.entries.getLast?) →
    let mix := match near with
      | none => 0
      | some e => match e.kind with
        | .tracked i => if (p.record i).any fun r => r.fuel = b.fuel ∧ r.fuel ≠ .unknown ∧ r.lengthClass = b.lengthClass
          then 0 else 8192
        | _ => 8192
    p.berthCostAt b n = min 65535 ((if l.type = .deadEnd then 256 + (100 - b.energy.getD 0) * 64 else 0)
      + (p.freeUnits n - b.lengthClass.units) * 512 + mix + l.weight * 1024))
  ∧ (∀ (p : Part) (b : BusCall) (n : Nat), p.candidate b n = true ↔
    ∃ l, p.lane n = some l ∧ l.state = .opened ∧ b.excluded ≠ some l.laneAlias
      ∧ (∀ e, l.entries.head? = some e → e.unconfirmed = false) ∧ b.lengthClass.units ≤ p.freeUnits n
      ∧ p.placesInUse n < 12)
  ∧ (∀ (p : Part) (c : SlotCall) (i : Nat), p.eligible c i = true ↔
    ∃ r n k l d E, p.record i = some r ∧ p.entryOf i = some (n, k) ∧ p.lane n = some l ∧ p.depth i = some d
      ∧ r.energy = some E ∧ r.place = .parked ∧ r.stray = false ∧ r.doubled = false ∧ r.unconfirmed = false
      ∧ r.shunt = false ∧ (∀ e ∈ p.xe.exchanges, e.record = i → e.closing = true) ∧ c.eMin ≤ E
      ∧ r.fuel = c.fuel ∧ r.fuel ≠ .unknown ∧ r.lengthClass = c.lengthClass ∧ (c.washRequired = true → r.washed = true)
      ∧ l.state = .opened ∧ p.awardPlaces < 8
      ∧ (d = 0 ∨ (c.digAllowed = true ∧ d ≤ 3 ∧ p.lanesInDig < 2
        ∧ ∀ e ∈ l.entries.take k, e.unconfirmed = false ∧ e.kind ≠ .untracked)))

/-- A WHEREABOUTS without the gate flag enters the memory; one about a held bus that is not in HANDOVER also enters an
answer: HELD where the bus stands here, else RELEASE. The quiet timer stands at the recessive bits that the frame ended with,
its acknowledgement slot having been driven. -/
def Obligations.WhereaboutsIsAnswered : Prop :=
  ∀ (f : RxFrame) (s : State), s.Listens → f.flaw = false → f.addressee = 0 → frameFits 5 f.body = true →
    (byteAt f.body 2).testBit 0 = false →
    ∃ u, exec (.whereaboutsReceived f) s = .next u
      ∧ { fleet := wordAt f.body 0 2, asker := f.node, gate := false, expiry := some (3 * byteAt f.body 3) }
          ∈ u.xe.memory
      ∧ (∀ i r, s.findFleet (wordAt f.body 0 2) = some i → s.record i = some r → s.inHandover i = false →
        s.answerOf i = none → s.xe.answers.length < 8 →
        ∃ a ∈ u.xe.answers, a.record = i ∧ a.asker = f.node ∧ a.fleet = r.fleet ∧ a.gate = false ∧ a.deferred = false
          ∧ a.kind = (if r.place ∈ [.queued, .granted, .inService, .parked, .awarded] then .held else .release))
      ∧ YardKept s.toPart u.toPart ∧ u.xe.reservations = s.xe.reservations ∧ u.xe.questions = s.xe.questions
      ∧ u.lif.quiet = recessiveRun (closingBits true false f.endBits) ∧ u.lif.droveAck = true

/-- A delivered OFFER of another node that ends with the window OPEN closes it. Where the call was this node's own and its
exchange waits in WINDOW, the exchange is in HANDOVER with that node as winner. One that failed, flawed or addressed to another node
and not acknowledged, makes the window PENDING again below the call's limit, its reopen count raised and an offer considered afresh;
at the limit it closes as failed, and an own exchange ends. -/
def Obligations.OfferHeardClosesTheWindow : Prop :=
  ∀ (f : RxFrame) (c : WindowCall) (s : State), s.lif.lineState = .active → s.lif.window.cond = .opened →
    s.lif.window.call = some c → s.lif.tx = none →
    (f.flaw = false → f.addressee = 0 → f.node ≠ s.lif.nodeNumber → frameFits 6 f.body = true →
      (c.caller ≠ s.lif.nodeNumber →
        ∃ u, exec (.offerReceived f) s = .next u ∧ u.lif.window = Window.shut ∧ u.lif.lineState = .active
          ∧ u.xe.reservations = s.xe.reservations ∧ YardKept s.toPart u.toPart ∧ u.fp.replies = s.fp.replies)
      ∧ (∀ e, s.windowExchange c = some e → offerForm c.kind f.body = true → s.du.digs = [] →
        (s.xe.exchanges.map (·.id)).Nodup →
        ∃ u, exec (.offerReceived f) s = .next u ∧ u.lif.window = Window.shut
          ∧ (∃ e' ∈ u.xe.exchanges, e'.id = e.id ∧ e'.record = e.record ∧ e'.state = .handover
            ∧ e'.winner = some { node := f.node, item := f.item, laneAlias := byteAt f.body 2 } ∧ e'.transferFailures = 0)
          ∧ YardKept s.toPart u.toPart))
    ∧ (f.flaw = true ∨ (f.ack = false ∧ f.addressee ≠ 0 ∧ f.addressee ≠ s.lif.nodeNumber ∧ f.node ≠ s.lif.nodeNumber
        ∧ frameFits 6 f.body = true) →
      ∃ u, exec (.offerReceived f) s = .next u ∧ u.lif.lineState = .active ∧ u.lif.consecutiveFlaws = 0
        ∧ u.lif.counters = s.lif.counters ∧ WindowAfterFailedOffer c s.xe.reservations s u)

/-- A TRANSFER to this node that matches a HELD reservation takes it (R70): the reservation is gone, and it becomes the bus's
place. A bus that is not held gets a record from the image: EN_ROUTE to the reserved lane, an inbound allocation of the
reservation's units standing there, or EN_ROUTE to the service point, the inbound limit running. Into a record that is held the image
is merged (R5). Where its bus stands here (INTAKE, PARKED, AWARDED, QUEUED, GRANTED, IN_SERVICE) it keeps its place, and no
allocation is made; else its old place is cleared and it is EN_ROUTE as a new one is. A remembered question of another asker about
the bus is then answered (R81), RELEASE for a bus that is EN_ROUTE. -/
def Obligations.TransferBecomesInbound : Prop :=
  ∀ (f : RxFrame) (m : Image) (v : Reservation) (s : State), s.TakesTransfer f m v →
    (∀ n units i l, v.resource = .berth n units → s.lane n = some l → s.findFleet m.fleet = none → s.freeIndex = some i →
      ∃ u, exec (.transferReceived f) s = .next u
        ∧ (∃ r, u.record i = some r ∧ r.fleet = m.fleet ∧ r.fuel = m.fuel ∧ r.lengthClass = m.lengthClass
          ∧ r.serviceClass = m.serviceClass ∧ r.energy = m.energy ∧ r.washDue = m.washDue ∧ r.washed = m.washed
          ∧ r.age = m.age ∧ r.outcome = m.outcome ∧ r.place = .enRoute ∧ r.destination = some (.lane n)
          ∧ r.placeTimer = some (15 * 60 * 1000))
        ∧ (∃ l', u.lane n = some l' ∧ l'.entries = l.entries ∧ l'.allocs = l.allocs ++ [{ record := i, units := units }])
        ∧ (∀ r ∈ u.xe.reservations, ¬ (r.caller = f.node ∧ r.callId = byteAt f.body 0))
        ∧ u.lif.droveAck = true
        ∧ OtherRecordsKept i s.toPart u.toPart ∧ OtherLanesKept n s.toPart u.toPart ∧ SetupKept s.toPart u.toPart
        ∧ u.iu = s.iu ∧ u.ts = s.ts ∧ u.xe.questions = s.xe.questions)
    ∧ (∀ kind fuel i, v.resource = .place kind fuel → s.findFleet m.fleet = none → s.freeIndex = some i →
      ∃ u, exec (.transferReceived f) s = .next u
        ∧ (∃ r, u.record i = some r ∧ r.fleet = m.fleet ∧ r.fuel = m.fuel ∧ r.lengthClass = m.lengthClass
          ∧ r.serviceClass = m.serviceClass ∧ r.energy = m.energy ∧ r.washDue = m.washDue ∧ r.washed = m.washed
          ∧ r.age = m.age ∧ r.outcome = m.outcome ∧ r.place = .enRoute ∧ r.destination = some (.point kind)
          ∧ r.placeTimer = some (15 * 60 * 1000))
        ∧ (∀ r ∈ u.xe.reservations, ¬ (r.caller = f.node ∧ r.callId = byteAt f.body 0))
        ∧ u.lif.droveAck = true
        ∧ OtherRecordsKept i s.toPart u.toPart ∧ (∀ n, BothOrNone Lane.SettledTo (s.lane n) (u.lane n))
        ∧ SetupKept s.toPart u.toPart ∧ u.iu = s.iu ∧ u.ts = s.ts ∧ u.xe.questions = s.xe.questions)
    ∧ (∀ i r, s.findFleet m.fleet = some i → s.record i = some r →
      r.place ∈ [.intake, .parked, .awarded, .queued, .granted, .inService] →
      ∃ u, exec (.transferReceived f) s = .next u
        ∧ (∃ r', u.record i = some r' ∧ Merged m r r' ∧ (r'.place = r.place ∨ (r.place = .awarded ∧ r'.place = .parked))
          ∧ r'.destination = r.destination ∧ r'.placeTimer = r.placeTimer ∧ r'.unconfirmed = r.unconfirmed
          ∧ r'.lapses = r.lapses ∧ r'.retries = r.retries)
        ∧ u.xe.reservations
            = s.xe.reservations.filter (fun x => ¬ (x.caller = f.node ∧ x.callId = byteAt f.body 0))
        ∧ u.lif.droveAck = true
        ∧ OtherRecordsKept i s.toPart u.toPart ∧ (∀ n, BothOrNone Lane.SettledTo (s.lane n) (u.lane n))
        ∧ SetupKept s.toPart u.toPart ∧ u.iu = s.iu ∧ u.ts = s.ts ∧ u.xe.questions = s.xe.questions)
    ∧ (∀ i r d, s.findFleet m.fleet = some i → s.record i = some r → r.place ∈ [.apron, .enRoute, .served, .loose] →
      s.entryOf i = none → s.stationOf i = none →
      (∃ n units, v.resource = .berth n units ∧ d = .lane n) ∨ (∃ kind fuel, v.resource = .place kind fuel ∧ d = .point kind) →
      ∃ u, exec (.transferReceived f) s = .next u
        ∧ (∃ r', u.record i = some r' ∧ Merged m r r' ∧ r'.place = .enRoute ∧ r'.destination = some d
          ∧ r'.placeTimer = some (15 * 60 * 1000) ∧ r'.repeatTimer = none)
        ∧ (∀ n l, s.lane n = some l → ∃ l', u.lane n = some l' ∧ l'.entries = l.entries
          ∧ l'.allocs = l.allocs.filter (fun a => a.record ≠ i) ++ (match v.resource with
              | .berth lane units => if lane = n then [{ record := i, units := units }] else []
              | _ => []))
        ∧ u.xe.reservations
            = s.xe.reservations.filter (fun x => ¬ (x.caller = f.node ∧ x.callId = byteAt f.body 0))
        ∧ u.lif.droveAck = true
        ∧ (∀ q ∈ u.xe.questions, q.record ≠ i)
        ∧ (∀ k, u.station k = s.station k) ∧ OtherRecordsKept i s.toPart u.toPart ∧ SetupKept s.toPart u.toPart)
    ∧ (∀ x, s.xe.memory = [x] → x.fleet = m.fleet → x.asker ≠ f.node → s.xe.answers = [] →
      s.findFleet m.fleet = none → ∀ i, s.freeIndex = some i → s.inHandover i = false →
      ∃ u, exec (.transferReceived f) s = .next u ∧ u.xe.memory = []
        ∧ ∃ a ∈ u.xe.answers, a.record = i ∧ a.fleet = m.fleet ∧ a.asker = x.asker ∧ a.kind = .release ∧ a.gate = x.gate
          ∧ a.deferred = false)

/-- The answers to this node's question about a bus it holds. A RELEASE is merged: the image's energy, washed, wash due,
service class and age are taken, the stray and doubled flags cleared, and the question closed. A HELD to an ASKED question
sets the doubled flag, starts the repeat timer but for an APRON record's stopped one (log entry 20), and closes the question. -/
def Obligations.AnswersCloseTheQuestion : Prop :=
  (∀ (f : RxFrame) (m : Image) (q : Question) (r : Rec) (s : State), s.Listens → f.flaw = false →
    f.addressee = s.lif.nodeNumber → s.lif.nodeNumber ≠ 0 → frameFits 8 f.body = true → decodeImage f.body = some m →
    s.questionAbout m.fleet = some q → s.record q.record = some r →
    ∃ u, exec (.releaseReceived f) s = .next u
      ∧ (∃ r', u.record q.record = some r' ∧ r'.fleet = r.fleet ∧ r'.energy = m.energy ∧ r'.washed = m.washed
        ∧ r'.washDue = m.washDue ∧ r'.serviceClass = m.serviceClass ∧ r'.age = m.age ∧ r'.stray = false
        ∧ r'.doubled = false ∧ (r'.place = r.place ∨ r'.place = .parked))
      ∧ (∀ x ∈ u.xe.questions, x.record ≠ q.record)
      ∧ OtherRecordsKept q.record s.toPart u.toPart ∧ SetupKept s.toPart u.toPart ∧ u.iu = s.iu ∧ u.ts = s.ts
      ∧ (∀ n, BothOrNone Lane.SettledTo (s.lane n) (u.lane n)) ∧ u.xe.reservations = s.xe.reservations)
  ∧ (∀ (f : RxFrame) (q : Question) (r : Rec) (s : State), s.Listens → f.flaw = false →
    (f.addressee = 0 ∨ f.addressee = s.lif.nodeNumber) → frameFits 9 f.body = true →
    s.questionAbout (wordAt f.body 0 2) = some q → q.state = .asked → s.record q.record = some r →
    ∃ u, exec (.heldReceived f) s = .next u
      ∧ (∃ r', u.record q.record = some r' ∧ r'.fleet = r.fleet ∧ r'.doubled = true ∧ r'.energy = r.energy
        ∧ r'.stray = r.stray
        ∧ r'.repeatTimer = (if r.place = .apron ∧ r.repeatTimer = none then none
            else some (s.setting (·.repeatInterval)))
        ∧ (r'.place = r.place ∨ r'.place = .parked))
      ∧ (∀ x ∈ u.xe.questions, x.record ≠ q.record)
      ∧ OtherRecordsKept q.record s.toPart u.toPart ∧ SetupKept s.toPart u.toPart ∧ u.iu = s.iu ∧ u.ts = s.ts
      ∧ (∀ n, BothOrNone Lane.SettledTo (s.lane n) (u.lane n)) ∧ u.xe.reservations = s.xe.reservations)

/-- A DEPART NOTICE or a STATUS of another node, and a frame of kind 14 or 15, are read to their end and not acted upon: the
yard and the lists of exchanges with other nodes stay, and a frame of kind 14 or 15 changes no count and drives no slot. The
quiet timer stands at the recessive bits that the frame ended with. -/
def Obligations.OtherFramesAreNotActedUpon : Prop :=
  (∀ (f : RxFrame) (s : State), s.Listens → f.flaw = false → f.node ≠ s.lif.nodeNumber →
    ∀ c ∈ [(Instr.departNoticeReceived f, 10), (.statusFrameReceived f, 12)],
      ∃ u, exec c.1 s = .next u ∧ YardKept s.toPart u.toPart ∧ u.xe.reservations = s.xe.reservations
        ∧ u.xe.questions = s.xe.questions ∧ u.xe.memory = s.xe.memory ∧ u.xe.statusList = s.xe.statusList
        ∧ u.lif.lineState = .active ∧ u.lif.window = s.lif.window ∧ u.lif.counters = s.lif.counters
        ∧ u.lif.quiet = recessiveRun (rxBits c.2 f ++ closingBits (f.ack || u.lif.droveAck) false f.endBits)
        ∧ u.lif.consecutiveFlaws = 0 ∧ u.lif.droveFlaw = false ∧ u.fp.replies = s.fp.replies)
  ∧ (∀ (kind : Nat) (f : RxFrame) (s : State), s.Listens →
      ∃ u, exec (.unusedKindFrame { kind := kind, frame := f }) s = .next u ∧ YardKept s.toPart u.toPart
        ∧ u.xe.reservations = s.xe.reservations ∧ u.xe.questions = s.xe.questions ∧ u.xe.memory = s.xe.memory
        ∧ u.xe.statusList = s.xe.statusList ∧ u.lif.lineState = .active ∧ u.lif.window = s.lif.window
        ∧ u.lif.counters = s.lif.counters ∧ u.lif.consecutiveFlaws = s.lif.consecutiveFlaws
        ∧ u.lif.consecutiveFailures = s.lif.consecutiveFailures
        ∧ u.lif.quiet = recessiveRun (rxBits kind f ++ closingBits f.ack f.flaw f.endBits)
        ∧ u.lif.droveAck = false ∧ u.lif.droveFlaw = false ∧ u.fp.replies = s.fp.replies)

/-- A QUERY addressed to this node enters the status list once, where it has room; one addressed to all or elsewhere does
not. -/
def Obligations.QueryEntersTheStatusList : Prop :=
  ∀ (f : RxFrame) (s : State), s.Listens → f.flaw = false → frameFits 11 f.body = true →
    ∃ u, exec (.queryReceived f) s = .next u
      ∧ (f.addressee = s.lif.nodeNumber → s.lif.nodeNumber ≠ 0 → s.xe.statusList.length < 4 →
        { node := f.node, part := byteAt f.body 0, index := byteAt f.body 1 } ∉ s.xe.statusList →
        u.xe.statusList = s.xe.statusList ++ [{ node := f.node, part := byteAt f.body 0, index := byteAt f.body 1 }])
      ∧ (f.addressee = 0 ∨ f.addressee ≠ s.lif.nodeNumber ∨ 4 ≤ s.xe.statusList.length
          ∨ { node := f.node, part := byteAt f.body 0, index := byteAt f.body 1 } ∈ s.xe.statusList →
        u.xe.statusList = s.xe.statusList)
      ∧ YardKept s.toPart u.toPart ∧ u.xe.reservations = s.xe.reservations ∧ u.xe.questions = s.xe.questions
      ∧ u.xe.memory = s.xe.memory

/-- A claim of this node's number with the in-use flag clear is answered, one answer at a time, and is no clash. Any other
frame with this node's number from another station is a clash, counted up to 65535. -/
def Obligations.OwnNumberHeardIsAnsweredOrClashes : Prop :=
  (∀ (f : RxFrame) (s : State), s.Listens → f.flaw = false → f.node = s.lif.nodeNumber → f.addressee = 0 →
    frameFits 13 f.body = true →
    ∃ u, exec (.nodeClaimReceived f) s = .next u
      ∧ ((byteAt f.body 3).testBit 0 = false →
        u.lif.claimAnswer = some (s.lif.claimAnswer.getD 0) ∧ u.lif.counters = s.lif.counters)
      ∧ ((byteAt f.body 3).testBit 0 = true →
        u.lif.claimAnswer = s.lif.claimAnswer
        ∧ u.lif.counters = { s.lif.counters with numberClashes := min (s.lif.counters.numberClashes + 1) 65535 })
      ∧ u.lif.nodeNumber = s.lif.nodeNumber ∧ u.lif.lineState = .active ∧ YardKept s.toPart u.toPart)
  ∧ (∀ (f : RxFrame) (s : State), s.Listens → f.flaw = false → f.node = s.lif.nodeNumber →
    ∀ c ∈ [Instr.timeMarkReceived f, .slotCallReceived f, .berthCallReceived f, .fuelCallReceived f, .washCallReceived f,
           .whereaboutsReceived f, .offerReceived f, .transferReceived f, .releaseReceived f, .heldReceived f,
           .departNoticeReceived f, .queryReceived f, .statusFrameReceived f],
      ∃ u, exec c s = .next u
        ∧ u.lif.counters = { s.lif.counters with numberClashes := min (s.lif.counters.numberClashes + 1) 65535 }
        ∧ u.lif.nodeNumber = s.lif.nodeNumber ∧ u.lif.lineState = .active)

/-- A frame whose check failed is counted, and is no longer on the line. In ACTIVE the node flaws it, and at the 32nd in a row goes
MUTE with the stand-down of 2 s running; in JOINING and MUTE it only counts. Where it has won an OPEN window, its kind is the one read
(log entry 62, DESIGN CHOICE): an OFFER makes the window PENDING again below the call's limit, its reopen count raised and an offer
considered afresh, and closes it as failed at the limit; any other frame closes it empty, and an own exchange ends. -/
def Obligations.FlawedFrameIsCounted : Prop :=
  ∀ (f : FlawedFrame) (s : State), flawedKind f < 14 →
    (s.Listens →
      ∃ u, exec (.flawedFrameReceived f) s = .next u
        ∧ u.lif.counters = { s.lif.counters with
            checkFailures := min (s.lif.counters.checkFailures + 1) 65535
            flawsSignalled := min (s.lif.counters.flawsSignalled + 1) 65535 }
        ∧ u.lif.droveFlaw = true ∧ u.lif.rx = []
        ∧ (s.lif.consecutiveFlaws < 31 →
          u.lif.lineState = .active ∧ u.lif.consecutiveFlaws = s.lif.consecutiveFlaws + 1
          ∧ u.lif.quiet = recessiveRun (closingBits f.ack true f.endBits)
          ∧ YardKept s.toPart u.toPart ∧ u.xe.reservations = s.xe.reservations)
        ∧ (31 ≤ s.lif.consecutiveFlaws →
          u.lif.lineState = .mute ∧ u.lif.standDown = some 2000 ∧ u.lif.window = Window.shut
          ∧ u.lif.consecutiveFailures = 0 ∧ u.lif.consecutiveFlaws = 0 ∧ u.lif.claimAnswer = none
          ∧ u.lif.tx = none ∧ (∀ r ∈ u.xe.reservations, r.held = true)))
    ∧ (s.lif.lineState = .joining ∨ s.lif.lineState = .mute → s.lif.tx = none →
      ∃ u, exec (.flawedFrameReceived f) s = .next u
        ∧ u.lif.counters = { s.lif.counters with checkFailures := min (s.lif.counters.checkFailures + 1) 65535 }
        ∧ u.lif.lineState = s.lif.lineState ∧ u.lif.consecutiveFlaws = s.lif.consecutiveFlaws
        ∧ u.lif.droveFlaw = false ∧ u.lif.rx = [] ∧ YardKept s.toPart u.toPart)
    ∧ (∀ c, s.lif.lineState = .active → s.lif.tx = none → s.lif.window.cond = .opened → s.lif.window.call = some c →
      s.lif.consecutiveFlaws < 31 →
      ∃ u, exec (.flawedFrameReceived f) s = .next u
        ∧ u.lif.counters = { s.lif.counters with
            checkFailures := min (s.lif.counters.checkFailures + 1) 65535
            flawsSignalled := min (s.lif.counters.flawsSignalled + 1) 65535 }
        ∧ u.lif.lineState = .active ∧ u.lif.consecutiveFlaws = s.lif.consecutiveFlaws + 1 ∧ u.lif.droveFlaw = true
        ∧ u.lif.rx = []
        ∧ (flawedKind f = 6 → WindowAfterFailedOffer c s.xe.reservations s u)
        ∧ (flawedKind f ≠ 6 →
          u.lif.window = Window.shut ∧ u.xe.reservations = s.xe.reservations.filter (·.held)
          ∧ (s.windowExchange c = none → YardKept s.toPart u.toPart)
          ∧ ∀ e, s.windowExchange c = some e → ExchangeFailed 0 e s u))

/-! ### The node's own sending -/

/-- A waiting frame starts where the line state and the window allow it and no other frame is on the line, and its bits are driven,
its dominant start bit read after a gap of 12 recessive bits, counted from the end field of the frame before; with a frame on the
line it waits. The first bit of a PENDING window starts this node's OFFER, or opens the window for another station's frame, or
closes it empty at its 13th recessive bit, releasing what was offered. That an event brings the bits of the gap that are not yet
counted is the model's choice (log entry 8). An own call whose window closes empty fails: a BERTH call's record
becomes APRON with its repeat timer running, and the gate that holds it lets it through; a FUEL or WASH call is repeated below the
third failure, a WASH found closed as BERTH; at the third the service is skipped and reported, and the next call made. -/
def Obligations.SendingStarts : Prop :=
  (∀ (t : TxPlace) (s : State), s.lif.tx = some t → t.sending = false → t.key ≠ .offer →
    (s.lif.lineState = .active ∨ s.lif.lineState = .claiming) → s.lif.window.cond = .closed →
    (s.lif.rx = [] → exec .transmitStart s
      = .next { s with lif := { s.lif with
          tx := some { t with sending := true }, lineBits := t.frame.bits, rx := [false], quiet := 0, gap := 0
          stuck := if s.lif.gap < 12 then 1 else s.lif.stuck + 1 } })
    ∧ (s.lif.rx ≠ [] → exec .transmitStart s = .next s))
  ∧ (∀ (t : TxPlace) (other : Bool) (s : State), s.lif.window.cond = .pending → s.lif.tx = some t → t.key = .offer →
    exec (.windowFirstBit other) s
      = .next { s with lif := { s.lif with
          tx := some { t with sending := true }, lineBits := t.frame.bits, rx := [false], quiet := 0, gap := 0
          stuck := if s.lif.gap < 12 then 1 else s.lif.stuck + 1
          window := { s.lif.window with cond := .opened } } })
  ∧ (∀ s : State, s.lif.window.cond = .pending → (∀ t, s.lif.tx = some t → t.key ≠ .offer) →
    exec (.windowFirstBit true) s
      = .next { s with lif := { s.lif with
          rx := [false], quiet := 0, gap := 0, stuck := if s.lif.gap < 12 then 1 else s.lif.stuck + 1
          window := { s.lif.window with cond := .opened } } })
  ∧ (∀ s : State, s.lif.window.cond = .pending → (∀ t, s.lif.tx = some t → t.key ≠ .offer) →
    ∃ u, exec (.windowFirstBit false) s = .next u ∧ u.lif.window = Window.shut
      ∧ u.lif.quiet = s.lif.quiet + (13 - s.lif.gap) ∧ (s.lif.gap < 13 → u.lif.gap = 13 ∧ u.lif.stuck = 0)
      ∧ (∀ r ∈ u.xe.reservations, r.held = true) ∧ u.lif.lineState = s.lif.lineState ∧ SetupKept s.toPart u.toPart)
  ∧ (∀ (c : WindowCall) (e : Exchange) (s : State), s.lif.window.cond = .pending →
    (∀ t, s.lif.tx = some t → t.key ≠ .offer) → s.lif.window.call = some c → s.windowExchange c = some e →
    ∃ u, exec (.windowFirstBit false) s = .next u ∧ ExchangeFailed 0 e s u)

/-- A frame being sent that reads dominant a bit of its contention field, which it drives recessive, has lost contention and is
counted; it waits again in its place, but an OFFER goes back and what was offered is released. A difference in a later bit is an
echo fault: it abandons the frame, whose bits up to it the node has read, counts as an echo fault and as an own-frame failure, and
drives the flaw slot; in the body of
a claim it counts as a lost contention (log entry 16). Elsewhere, and with no frame being sent, neither event changes anything
(log entry 2). -/
def Obligations.ContentionAndEchoAreCounted : Prop :=
  (∀ (t : TxPlace) (s : State), s.lif.tx = some t → t.sending = true → t.abandoned = false →
    ∃ u, exec .lostContention s = .next u
      ∧ u.lif.counters = { s.lif.counters with lostContentions := min (s.lif.counters.lostContentions + 1) 65535 }
      ∧ (t.key ≠ .offer → u.lif.tx = some { t with sending := false } ∧ u.xe.reservations = s.xe.reservations)
      ∧ (t.key = .offer → ∀ r ∈ u.xe.reservations, r.held = true)
      ∧ u.lif.quiet = 0 ∧ YardKept s.toPart u.toPart ∧ u.lif.lineState = s.lif.lineState)
  ∧ (∀ (t : TxPlace) (bit : Nat) (s : State), s.lif.tx = some t → t.sending = true → t.abandoned = false →
    (34 ≤ bit → bit ≤ t.frame.bits.length →
      (bit < 44 ∨ 43 + 8 * t.frame.body.length < bit ∨ (t.key ≠ .claim ∧ t.key ≠ .claimAnswer)) →
      ∃ u, exec (.echoFault bit) s = .next u
        ∧ u.lif.counters = { s.lif.counters with
            echoFaults := min (s.lif.counters.echoFaults + 1) 65535
            ownFailures := min (s.lif.counters.ownFailures + 1) 65535 }
        ∧ u.lif.tx = some { t with abandoned := true } ∧ u.lif.lineBits = [] ∧ u.lif.droveFlaw = true
        ∧ (∃ b, t.frame.bits[bit - 1]? = some b ∧ u.lif.rx = t.frame.bits.take (bit - 1) ++ [!b])
        ∧ YardKept s.toPart u.toPart ∧ u.lif.lineState = s.lif.lineState)
    ∧ (44 ≤ bit → bit ≤ 43 + 8 * t.frame.body.length → t.key = .claim →
      ∃ u, exec (.echoFault bit) s = .next u
        ∧ u.lif.counters = { s.lif.counters with lostContentions := min (s.lif.counters.lostContentions + 1) 65535 }
        ∧ YardKept s.toPart u.toPart ∧ u.lif.lineState = s.lif.lineState)
    ∧ ((bit < 34 ∨ t.frame.bits.length < bit) → exec (.echoFault bit) s = .next s))
  ∧ (∀ (bit : Nat) (s : State), (∀ t, s.lif.tx = some t → t.sending = false ∨ t.abandoned = true) →
    exec .lostContention s = .next s ∧ exec (.echoFault bit) s = .next s)

/-- The verdict on an own frame in ACTIVE, which is then no longer on the line, the gap counted from its end field.
Delivered, it ends the failures in a row: a call puts its exchange in WINDOW and opens the window; a TRANSFER deletes the record, and a
gate that holds its bus shows the destination and releases it; either frees an exchange that was closed meanwhile; a question is ASKED with its answer timer running; a RELEASE gives the
record up, a HELD frees its answer; a notice leaves its list; an OFFER on another node's call is HELD with its timer running, or a
bid's award is made; an OFFER that wins this node's own call places its record by itself: the reservation becomes its inbound
allocation or queue place, the record is EN_ROUTE there with the inbound limit running, an old entry of it is OUTBOUND, and the
exchange ends.
Failed, it is counted, once where it was abandoned, and a sixth failure in a row makes the node MUTE. Below the sixth a call, a
TRANSFER, a question, an answer and a notice count the failure and wait one call spacing, below their third one; at the third the
exchange ends, HANDOVER_FAILED reported for a TRANSFER, the bus asked about is adopted, the answer is freed and ANSWER_FAILED
reported, the notice goes and NOTICE_DROPPED is reported. A STATUS and a TIME MARK are sent once, a claim's answer up to three times.
A failed OFFER makes its window PENDING again below the call's limit, its reopen count raised and an offer considered afresh, and
closes it as failed at the limit. An abandoned frame fails whatever its slots say, and the bits read of it after its echo fault are
counted with its slots and its end; that no number clash is counted then is the model's choice (log entry 66). -/
def Obligations.OwnFrameVerdictActs : Prop :=
  (∀ (t : TxPlace) (id : Nat) (e : Exchange) (rest : List Bool) (eb : Byte) (s : State), s.lif.lineState = .active → s.lif.tx = some t →
    t.key = .call id → t.sending = true → t.abandoned = false → s.exchange id = some e → e.closing = false →
    s.du.digs = [] → (s.xe.exchanges.map (·.id)).Nodup →
    ∃ u, exec (.ownFrameVerdict { ack := true, flaw := false, rest := rest } eb) s = .next u
      ∧ (∃ e' ∈ u.xe.exchanges, e'.id = id ∧ e'.record = e.record ∧ e'.state = .window)
      ∧ u.lif.window.cond = .pending
      ∧ (∃ c, u.lif.window.call = some c ∧ c.caller = s.lif.nodeNumber ∧ c.callId = byteAt t.frame.body 0
        ∧ c.kind = e.kind.frame)
      ∧ u.lif.quiet = recessiveRun (closingBits true false eb) ∧ u.lif.gap = recessiveRun (endField eb) ∧ u.lif.rx = []
      ∧ u.lif.consecutiveFailures = 0 ∧ u.lif.counters = s.lif.counters
      ∧ u.xe.spacing = some (s.setting (·.spacing)) ∧ YardKept s.toPart u.toPart)
  ∧ (∀ (t : TxPlace) (id : Nat) (e : Exchange) (w : Winner) (r : Rec) (rest : List Bool) (eb : Byte)
    (s : State), s.lif.lineState = .active →
    s.lif.tx = some t → t.key = .transfer id → t.sending = true → t.abandoned = false → s.exchange id = some e →
    e.closing = false → e.gone = false → e.winner = some w → s.record e.record = some r →
    ∃ u, exec (.ownFrameVerdict { ack := true, flaw := false, rest := rest } eb) s = .next u ∧ u.record e.record = none
      ∧ u.lif.consecutiveFailures = 0 ∧ u.lif.counters = s.lif.counters ∧ SetupKept s.toPart u.toPart
      ∧ (∀ g, e.requester = .rs → r.place = .intake → s.iu.intake = some g → g.record = e.record →
        s.fp.outputs.length ≤ 62 →
        u.iu = { s.iu with intake := none, holdTimer := none } ∧ .barrier true ∈ u.fp.outputs
        ∧ .guidance r.fleet .gate (if e.kind = .berth then .lane w.laneAlias else .node w.node) .none ∈ u.fp.outputs))
  ∧ (∀ (t : TxPlace) (slots : Slots) (eb : Byte) (s : State), s.OwnFrameDelivered t slots →
    ∃ u, exec (.ownFrameVerdict slots eb) s = .next u ∧ u.lif.lineState = .active ∧ u.lif.consecutiveFailures = 0
      ∧ u.lif.counters = s.lif.counters ∧ u.lif.rx = [] ∧ u.lif.gap = recessiveRun (endField eb)
      ∧ (∀ id e, t.key = .call id → s.exchange id = some e → u.xe.spacing = some (s.setting (·.spacing))
        ∧ u.lif.window.cond = .pending ∧ u.lif.window.reopens = 0 ∧ YardKept s.toPart u.toPart
        ∧ (e.closing = true → s.rs.wantedOrder = [] → s.du.digs = [] → ∀ x ∈ u.xe.exchanges, x.id ≠ id))
      ∧ (∀ id e, t.key = .transfer id → s.exchange id = some e →
        (e.gone = false → u.record e.record = none)
        ∧ (e.gone = true → YardKept s.toPart u.toPart)
        ∧ (e.closing = true → s.rs.wantedOrder = [] → s.du.digs = [] → ∀ x ∈ u.xe.exchanges, x.id ≠ id))
      ∧ (∀ i, t.key = .question i → (t.census = true → u.xe.spacing = some (s.setting (·.spacing)))
        ∧ (t.stale = true → u.xe.questions = s.xe.questions ∧ YardKept s.toPart u.toPart)
        ∧ (∀ q, t.stale = false → s.questionOf i = some q →
          u.xe.questions = s.xe.questions.map (fun x => if x.record = i
            then { x with state := .asked, answerTimer := some (3 * s.setting (·.reservationTimeout)) } else x)
          ∧ (∀ r, s.record i = some r → ∃ r', u.record i = some r' ∧ r'.fleet = r.fleet ∧ r'.census = false
            ∧ r'.stray = r.stray ∧ r'.doubled = r.doubled)
          ∧ OtherRecordsKept i s.toPart u.toPart))
      ∧ (∀ i, t.key = .answer i →
        (t.gone = true → YardKept s.toPart u.toPart)
        ∧ (t.gone = false → t.frame.kind = 8 →
          u.record i = none ∧ (∀ a ∈ u.xe.answers, a.record ≠ i) ∧ (∀ q ∈ u.xe.questions, q.record ≠ i)
          ∧ (∀ n l, u.lane n = some l → ∀ a ∈ l.allocs, a.record ≠ i) ∧ EntryTaken i s u ∧ SetupKept s.toPart u.toPart)
        ∧ (t.gone = false → t.frame.kind ≠ 8 → YardKept s.toPart u.toPart
          ∧ (t.stale = false → ∀ a ∈ u.xe.answers, a.record ≠ i)))
      ∧ (∀ n rest, t.key = .notice → s.xe.notices = n :: rest →
        (∃ more, u.xe.notices = rest ++ more) ∧ YardKept s.toPart u.toPart)
      ∧ (t.key = .status → u.xe.statusList = s.xe.statusList.drop 1 ∧ YardKept s.toPart u.toPart)
      ∧ (t.key = .timeMark → YardKept s.toPart u.toPart)
      ∧ (t.key = .claimAnswer → u.lif.claimAnswer = none ∧ YardKept s.toPart u.toPart)
      ∧ (∀ c v, t.key = .offer → t.frame.node = s.lif.nodeNumber → s.lif.window.call = some c →
        c.caller ≠ s.lif.nodeNumber → s.reservation c.caller c.callId = some v →
        u.lif.window = Window.shut
        ∧ ((∀ i fleet, v.resource ≠ .bid i fleet) → YardKept s.toPart u.toPart
          ∧ u.xe.reservations = s.xe.reservations.map (fun x => if x.caller = c.caller ∧ x.callId = c.callId
              then { x with held := true, timer := some (s.setting (·.reservationTimeout)) } else x))
        ∧ (∀ i d r n l, v.resource = .bid i r.fleet → c.content = some (.slot d) → s.record i = some r →
          r.place = .parked → s.entryOf i = some (n, 0) → s.lane n = some l → s.du.digs = [] → s.answerOf i = none →
          (∀ a ∈ s.du.awards, a.slot ≠ d.slot) →
          (∃ r', u.record i = some r' ∧ r'.fleet = r.fleet ∧ r'.place = .awarded ∧ r'.award = some (d.slot, d.due))
          ∧ (∃ a ∈ u.du.awards, a.slot = d.slot ∧ a.due = d.due ∧ a.record = i ∧ a.fleet = r.fleet ∧ a.lane = n
            ∧ a.mode = .direct)
          ∧ FirstReport s u (.award d.slot r.fleet l.laneAlias 0)
          ∧ u.xe.reservations
              = s.xe.reservations.filter (fun x => ¬ (x.caller = c.caller ∧ x.callId = c.callId)))))
  ∧ (∀ (t : TxPlace) (slots : Slots) (eb : Byte) (s : State), s.OwnFrameFailed t slots →
    ∃ u, exec (.ownFrameVerdict slots eb) s = .next u ∧ u.lif.lineState = .active
      ∧ u.lif.consecutiveFailures = s.lif.consecutiveFailures + 1
      ∧ u.lif.counters = (if t.abandoned then s.lif.counters
          else { s.lif.counters with ownFailures := min (s.lif.counters.ownFailures + 1) 65535 })
      ∧ u.lif.droveFlaw = t.abandoned ∧ u.lif.rx = [] ∧ u.lif.gap = recessiveRun (endField eb)
      ∧ (t.abandoned = true → u.lif.quiet = recessiveRun (slots.rest ++ closingBits slots.ack true eb))
      ∧ (slots.flaw = true → t.abandoned = false → u.lif.quiet = recessiveRun (closingBits slots.ack true eb))
      ∧ SetupKept s.toPart u.toPart
      ∧ (t.key ≠ .offer → u.lif.window = s.lif.window ∧ u.xe.reservations = s.xe.reservations)
      ∧ (∀ id, t.key = .call id → u.xe.spacing = some (s.setting (·.spacing)) ∧ ∀ e, s.exchange id = some e →
        (e.closing = false → e.callFailures < 2 → s.du.digs = [] → YardKept s.toPart u.toPart
          ∧ ∃ x ∈ u.xe.exchanges, x.id = id ∧ x.record = e.record ∧ x.kind = e.kind ∧ x.state = .pending
            ∧ x.callFailures = e.callFailures + 1 ∧ x.wait = some (s.setting (·.spacing)) ∧ x.closing = false)
        ∧ (e.closing = false → 2 ≤ e.callFailures → ExchangeFailed 0 e s u)
        ∧ (e.closing = true → s.rs.wantedOrder = [] → s.du.digs = [] →
          (∀ x ∈ u.xe.exchanges, x.id ≠ id) ∧ YardKept s.toPart u.toPart))
      ∧ (∀ id e, t.key = .transfer id → s.exchange id = some e →
        (e.closing = false → e.transferFailures < 2 → s.du.digs = [] → YardKept s.toPart u.toPart
          ∧ ∃ x ∈ u.xe.exchanges, x.id = id ∧ x.record = e.record ∧ x.state = e.state ∧ x.winner = e.winner
            ∧ x.transferFailures = e.transferFailures + 1 ∧ x.wait = some (s.setting (·.spacing)) ∧ x.closing = false)
        ∧ (e.closing = false → 2 ≤ e.transferFailures → ExchangeFailed 1 e s u
          ∧ ∀ w, e.winner = some w → FirstReport s u (.handoverFailed (s.fleetOf e.record) e.kind w.node))
        ∧ (e.closing = true → s.rs.wantedOrder = [] → s.du.digs = [] →
          (∀ x ∈ u.xe.exchanges, x.id ≠ id) ∧ YardKept s.toPart u.toPart))
      ∧ (∀ i, t.key = .question i → (t.census = true → u.xe.spacing = some (s.setting (·.spacing)))
        ∧ (t.stale = true → u.xe.questions = s.xe.questions ∧ YardKept s.toPart u.toPart)
        ∧ (∀ q, t.stale = false → s.questionOf i = some q →
          (q.failures < 2 → YardKept s.toPart u.toPart
            ∧ u.xe.questions = s.xe.questions.map (fun x => if x.record = i
                then { x with failures := x.failures + 1, wait := some (s.setting (·.spacing)) } else x))
          ∧ (2 ≤ q.failures →
            u.xe.questions = s.xe.questions.map (fun x => if x.record = i
              then { x with failures := x.failures + 1, state := .over, wait := none, answerTimer := none } else x)
            ∧ (∀ r, s.record i = some r → FirstReport s u (.adopted r.fleet)
              ∧ ∃ r', u.record i = some r' ∧ r'.fleet = r.fleet ∧ r'.stray = false ∧ r'.doubled = false
                ∧ r'.census = false ∧ (r'.place = r.place ∨ r'.place = .parked))
            ∧ OtherRecordsKept i s.toPart u.toPart)))
      ∧ (∀ i, t.key = .answer i →
        (t.gone = true ∨ t.stale = true → YardKept s.toPart u.toPart)
        ∧ (∀ a, t.gone = false → t.stale = false → s.answerOf i = some a → YardKept s.toPart u.toPart
          ∧ (a.failures < 2 → ∃ x ∈ u.xe.answers, x.record = i ∧ x.asker = a.asker ∧ x.failures = a.failures + 1
            ∧ x.wait = some (s.setting (·.spacing)))
          ∧ (2 ≤ a.failures → (∀ x ∈ u.xe.answers, x.record ≠ i) ∧ FirstReport s u (.answerFailed a.fleet a.asker))))
      ∧ (∀ n rest, t.key = .notice → s.xe.notices = n :: rest → YardKept s.toPart u.toPart
        ∧ (n.failures < 2 → u.xe.noticeWait = some (s.setting (·.spacing))
          ∧ ∃ more, u.xe.notices = { n with failures := n.failures + 1 } :: rest ++ more)
        ∧ (2 ≤ n.failures → FirstReport s u (.noticeDropped n.notice.fleet n.notice.slot)
          ∧ ∃ more, u.xe.notices = rest ++ more))
      ∧ (t.key = .status → u.xe.statusList = s.xe.statusList.drop 1 ∧ YardKept s.toPart u.toPart)
      ∧ (t.key = .timeMark → YardKept s.toPart u.toPart)
      ∧ (t.key = .claimAnswer → YardKept s.toPart u.toPart ∧ ∀ n, s.lif.claimAnswer = some n →
        u.lif.claimAnswer = (if n < 2 then some (n + 1) else none))
      ∧ (∀ c, t.key = .offer → s.lif.window.call = some c →
        WindowAfterFailedOffer c (s.xe.reservations.filter (·.held)) s u))
  ∧ (∀ (t : TxPlace) (slots : Slots) (eb : Byte) (s : State), s.lif.lineState = .active → s.lif.tx = some t →
    t.sending = true → (t.abandoned = true ∨ slots.ack = false ∨ slots.flaw = true) → s.lif.consecutiveFailures = 5 →
    ∃ u, exec (.ownFrameVerdict slots eb) s = .next u
      ∧ u.lif.lineState = .mute ∧ u.lif.standDown = some 2000 ∧ u.lif.window = Window.shut
      ∧ u.lif.consecutiveFailures = 0 ∧ u.lif.consecutiveFlaws = 0 ∧ u.lif.claimAnswer = none
      ∧ u.lif.counters = (if t.abandoned then s.lif.counters
          else { s.lif.counters with ownFailures := min (s.lif.counters.ownFailures + 1) 65535 }))
  ∧ (∀ (t : TxPlace) (c : WindowCall) (e : Exchange) (v : Reservation) (r : Rec) (d : Destination) (rest : List Bool)
    (eb : Byte) (s : State), s.lif.lineState = .active → s.lif.tx = some t → t.key = .offer → t.sending = true → t.abandoned = false →
    t.frame.node = s.lif.nodeNumber → s.lif.window.call = some c → s.windowExchange c = some e →
    s.reservation c.caller c.callId = some v → s.record e.record = some r → s.rs.wantedOrder = [] → s.du.digs = [] →
    (∃ n l units, v.resource = .berth n units ∧ s.lane n = some l ∧ d = .lane n)
      ∨ (∃ kind fuel, v.resource = .place kind fuel ∧ d = .point kind) →
    ∃ u, exec (.ownFrameVerdict { ack := true, flaw := false, rest := rest } eb) s = .next u
      ∧ (∃ r', u.record e.record = some r' ∧ r'.fleet = r.fleet ∧ r'.place = .enRoute ∧ r'.destination = some d
        ∧ r'.placeTimer = some (15 * 60 * 1000) ∧ r'.age = r.age)
      ∧ (∀ n l, s.lane n = some l → ∃ l', u.lane n = some l'
        ∧ l'.allocs = l.allocs ++ (match v.resource with
            | .berth m units => if m = n then [{ record := e.record, units := units }] else []
            | _ => [])
        ∧ l'.entries = l.entries.map fun x => if x.kind = .tracked e.record then { x with kind := .outbound } else x)
      ∧ (∀ x ∈ u.xe.reservations, ¬ (x.caller = c.caller ∧ x.callId = c.callId))
      ∧ (∀ x ∈ u.xe.exchanges, x.id ≠ e.id) ∧ u.lif.window = Window.shut ∧ u.lif.consecutiveFailures = 0
      ∧ OtherRecordsKept e.record s.toPart u.toPart ∧ SetupKept s.toPart u.toPart)

/-! ### Line states -/

/-- The end of JOINING leads to ACTIVE for a node with a number, both consecutive counts 0 and LINE_ACTIVE queued, else to
CLAIMING with an empty claim state and the listening period running; the ends of LOST and of the stand-down lead to
JOINING, whose quiet bits are counted from the entry (R53). That the quiet timer and the gap hold at least 64 and the stuck timer 0 at the end
of JOINING is read from the event (the model's choice, log entry 8). -/
def Obligations.JoiningLeadsToActiveOrClaiming : Prop :=
  (∀ s : State, s.lif.lineState = .joining → s.lif.nodeNumber ≠ 0 →
    ∃ u, exec .joiningComplete s = .next u ∧ u.lif.lineState = .active ∧ u.lif.consecutiveFailures = 0
      ∧ u.lif.consecutiveFlaws = 0 ∧ u.lif.nodeNumber = s.lif.nodeNumber
      ∧ FirstReport s u (.lineActive s.lif.nodeNumber s.lif.claimed) ∧ u.lif.quiet = max 64 s.lif.quiet ∧ u.lif.stuck = 0
      ∧ YardKept s.toPart u.toPart ∧ u.xe.reservations = s.xe.reservations ∧ u.xe.questions = s.xe.questions)
  ∧ (∀ s : State, s.lif.lineState = .joining → s.lif.nodeNumber = 0 →
    exec .joiningComplete s = .next { s with lif := { s.lif with
      lineState := .claiming, quiet := max 64 s.lif.quiet, stuck := 0, gap := max 64 s.lif.gap
      claim := { heard := [], tried := [], number := none, failed := 0, timer := some 500 } } })
  ∧ (∀ s : State, s.lif.lineState = .lost →
    ∃ u, exec .lostEnd s = .next u ∧ u.lif.lineState = .joining ∧ u.lif.quiet = 0 ∧ u.lif.window = Window.shut
      ∧ u.lif.lineLost = s.lif.lineLost ∧ YardKept s.toPart u.toPart)
  ∧ (∀ (k : Nat) (s : State), s.lif.lineState = .mute → s.lif.standDown = some k →
    exec .standDownExpiry s = .next { s with lif := { s.lif with
      lineState := .joining, quiet := 0, window := Window.shut, standDown := none
      consecutiveFailures := 0, consecutiveFlaws := 0 } })

/-- A line dominant for 256 bits is LOST from any state in which it is read: the flag is set, the window closed, the claim
dropped, the transmit place emptied, the frame that was being received dropped uncounted, what was offered released; the fault
counters stay. -/
def Obligations.LostLineIsFlagged : Prop :=
  ∀ s : State, s.lif.lineState ≠ .offline → s.lif.lineState ≠ .lost →
    ∃ u, exec .lineLost s = .next u ∧ u.lif.lineState = .lost ∧ u.lif.lineLost = true ∧ u.lif.window = Window.shut
      ∧ u.lif.claim = Claim.empty ∧ u.lif.claimAnswer = none ∧ u.lif.standDown = none
      ∧ u.lif.consecutiveFailures = 0 ∧ u.lif.consecutiveFlaws = 0 ∧ u.lif.counters = s.lif.counters
      ∧ u.lif.tx = none ∧ u.lif.rx = [] ∧ (∀ r ∈ u.xe.reservations, r.held = true)
      ∧ (∀ r ∈ s.xe.reservations, r.held = true → r ∈ u.xe.reservations)
      ∧ u.lif.nodeNumber = s.lif.nodeNumber ∧ SetupKept s.toPart u.toPart

/-- The claim of a number. After the listening period the lowest number neither heard nor tried is claimed by a NODE CLAIM with
the factory identity; with none left NO_NUMBER is queued and the node listens anew. After the confirm period the number
under claim is the node number and the node is ACTIVE. The verdict on its frame starts the confirm period where the frame was neither
flawed nor abandoned, acknowledged or not; one that is not acknowledged counts as an own-frame failure all the same (R48, R61; log
entry 49, DEDUCED). A flawed or abandoned claim, counted as an own-frame failure once, one lost in its body (an echo fault there, log entry 16), and one whose number another
station's frame carries are given up: counted as failed, the number joining the tried set but where the claim was flawed or
abandoned, and the lowest number left is claimed at once; at the eighth failed claim, or with no number left, NO_NUMBER is queued and
the node listens anew. -/
def Obligations.ClaimTakesTheLowestNumber : Prop :=
  (∀ (k n : Nat) (s : State), s.lif.lineState = .claiming → s.lif.claim.number = none → s.lif.claim.timer = some k →
    1 ≤ n → n ≤ 31 → n ∉ s.lif.claim.heard → n ∉ s.lif.claim.tried →
    (∀ m, 1 ≤ m → m < n → m ∈ s.lif.claim.heard ∨ m ∈ s.lif.claim.tried) →
    exec .listeningPeriodExpiry s = .next { s with lif := { s.lif with
      claim := { s.lif.claim with number := some n, timer := none }
      tx := some { key := .claim
                   frame := { kind := 13, cost := 0, node := n, item := 127, addressee := 0,
                              body := toBytes 3 s.identity.toNat ++ [byte 0] }
                   census := false, sending := false, abandoned := false, stale := false, gone := false } } })
  ∧ (∀ (k : Nat) (s : State), s.lif.lineState = .claiming → s.lif.claim.number = none → s.lif.claim.timer = some k →
    (∀ m, 1 ≤ m → m ≤ 31 → m ∈ s.lif.claim.heard ∨ m ∈ s.lif.claim.tried) →
    exec .listeningPeriodExpiry s = .next { s with toPart := queueReport .noNumber { s.toPart with lif := { s.lif with
      claim := { heard := [], tried := [], number := none, failed := 0, timer := some 500 } } } })
  ∧ (∀ (k n : Nat) (s : State), s.lif.lineState = .claiming → s.lif.claim.number = some n →
    s.lif.claim.timer = some k →
    ∃ u, exec .confirmPeriodExpiry s = .next u ∧ u.lif.lineState = .active ∧ u.lif.nodeNumber = n
      ∧ u.lif.claimed = true ∧ u.lif.claim = Claim.empty ∧ u.lif.consecutiveFailures = 0
      ∧ u.lif.consecutiveFlaws = 0 ∧ FirstReport s u (.lineActive n true) ∧ YardKept s.toPart u.toPart)
  ∧ (∀ (t : TxPlace) (n : Nat) (slots : Slots) (eb : Byte) (s : State), s.lif.lineState = .claiming → s.lif.tx = some t →
    t.key = .claim → t.sending = true → s.lif.claim.number = some n →
    (t.abandoned = false → slots.flaw = false →
      ∃ u, exec (.ownFrameVerdict slots eb) s = .next u ∧ u.lif.lineState = .claiming
        ∧ u.lif.claim = { s.lif.claim with timer := some 500 } ∧ u.lif.tx = none
        ∧ u.lif.counters = (if slots.ack then s.lif.counters
            else { s.lif.counters with ownFailures := min (s.lif.counters.ownFailures + 1) 65535 })
        ∧ u.lif.consecutiveFailures = s.lif.consecutiveFailures ∧ YardKept s.toPart u.toPart)
    ∧ (t.abandoned = true ∨ slots.flaw = true →
      ∃ u, exec (.ownFrameVerdict slots eb) s = .next u ∧ ClaimGivenUp false n s.lif.claim.heard s u
        ∧ u.lif.counters = (if t.abandoned then s.lif.counters
            else { s.lif.counters with ownFailures := min (s.lif.counters.ownFailures + 1) 65535 })
        ∧ u.lif.consecutiveFailures = s.lif.consecutiveFailures ∧ YardKept s.toPart u.toPart))
  ∧ (∀ (t : TxPlace) (n bit : Nat) (s : State), s.lif.lineState = .claiming → s.lif.tx = some t → t.key = .claim →
    t.sending = true → t.abandoned = false → s.lif.claim.number = some n → 44 ≤ bit →
    bit ≤ 43 + 8 * t.frame.body.length →
    ∃ u, exec (.echoFault bit) s = .next u ∧ ClaimGivenUp true n s.lif.claim.heard s u
      ∧ u.lif.counters = { s.lif.counters with lostContentions := min (s.lif.counters.lostContentions + 1) 65535 }
      ∧ YardKept s.toPart u.toPart)
  ∧ (∀ (f : RxFrame) (s : State), s.lif.lineState = .claiming → s.lif.claim.number = some f.node → 1 ≤ f.node →
    f.node ≤ 31 → f.flaw = false →
    ∀ c ∈ [(Instr.timeMarkReceived f, 0), (.slotCallReceived f, 1), (.berthCallReceived f, 2), (.fuelCallReceived f, 3),
           (.washCallReceived f, 4), (.whereaboutsReceived f, 5), (.offerReceived f, 6), (.transferReceived f, 7),
           (.releaseReceived f, 8), (.heldReceived f, 9), (.departNoticeReceived f, 10), (.queryReceived f, 11),
           (.statusFrameReceived f, 12), (.nodeClaimReceived f, 13)],
      (c.2 = 13 → frameFits 13 f.body = true) →
      ∃ u, exec c.1 s = .next u
        ∧ ClaimGivenUp true f.node
            (if f.node ∈ s.lif.claim.heard then s.lif.claim.heard else s.lif.claim.heard ++ [f.node]) s u)

/-! ### Timers -/

/-- The Exchange Engine's timers. A wait that runs out makes its frame ready again in ACTIVE, and a call's counts a failed
sending in any other state; a reservation that times out and a remembered question that expires are gone, and nothing else
changes. -/
def Obligations.EngineTimersRunOut : Prop :=
  (∀ (k : Nat) (s : State), s.xe.spacing = some k →
    ∃ u, exec .spacingTimerExpiry s = .next u ∧ u.xe.spacing = none ∧ u.rs = s.rs ∧ u.lm = s.lm ∧ u.iu = s.iu
      ∧ u.ts = s.ts ∧ u.du = s.du ∧ u.fp = s.fp ∧ SetupKept s.toPart u.toPart ∧ SameLine s.lif u.lif)
  ∧ (∀ (k : Nat) (s : State), s.xe.noticeWait = some k →
    ∃ u, exec .noticeWaitExpiry s = .next u ∧ u.xe.noticeWait = none ∧ u.xe.notices = s.xe.notices ∧ u.rs = s.rs
      ∧ u.lm = s.lm ∧ u.iu = s.iu ∧ u.ts = s.ts ∧ u.du = s.du ∧ u.fp = s.fp ∧ SetupKept s.toPart u.toPart
      ∧ SameLine s.lif u.lif)
  ∧ (∀ (i k : Nat) (q : Question) (s : State), s.questionOf i = some q → q.wait = some k →
    ∃ u, exec (.questionWaitExpiry i) s = .next u
      ∧ u.xe.questions = s.xe.questions.map (fun x => if x.record = i then { x with wait := none } else x)
      ∧ u.rs = s.rs ∧ u.lm = s.lm ∧ u.iu = s.iu ∧ u.ts = s.ts ∧ u.du = s.du ∧ u.fp = s.fp
      ∧ SetupKept s.toPart u.toPart ∧ SameLine s.lif u.lif)
  ∧ (∀ (i k : Nat) (a : Answer) (s : State), s.answerOf i = some a → a.wait = some k →
    ∃ u, exec (.answerWaitExpiry i) s = .next u
      ∧ u.xe.answers = s.xe.answers.map (fun x => if x.record = i then { x with wait := none } else x)
      ∧ u.rs = s.rs ∧ u.lm = s.lm ∧ u.iu = s.iu ∧ u.ts = s.ts ∧ u.du = s.du ∧ u.fp = s.fp
      ∧ SetupKept s.toPart u.toPart ∧ SameLine s.lif u.lif)
  ∧ (∀ (id k : Nat) (e : Exchange) (s : State), s.lif.lineState = .active → s.exchange id = some e → e.wait = some k →
    ∃ u, exec (.exchangeWaitExpiry id) s = .next u
      ∧ (∀ x ∈ u.xe.exchanges, x.id = id → x.wait = none) ∧ (∃ x ∈ u.xe.exchanges, x.id = id ∧ x.record = e.record)
      ∧ u.rs = s.rs ∧ u.lm = s.lm ∧ u.iu = s.iu ∧ u.ts = s.ts ∧ u.du = s.du ∧ u.fp = s.fp
      ∧ SetupKept s.toPart u.toPart ∧ SameLine s.lif u.lif)
  ∧ (∀ (id k : Nat) (e : Exchange) (s : State), s.lif.lineState ≠ .active → s.exchange id = some e → e.wait = some k →
    e.state = .pending → e.closing = false → e.callFailures < 2 → s.du.digs = [] →
    ∃ u, exec (.exchangeWaitExpiry id) s = .next u
      ∧ (∃ x ∈ u.xe.exchanges, x.id = id ∧ x.record = e.record ∧ x.state = .pending
        ∧ x.callFailures = e.callFailures + 1 ∧ x.wait = some (s.setting (·.spacing)))
      ∧ u.xe.spacing = some (s.setting (·.spacing)) ∧ YardKept s.toPart u.toPart)
  ∧ (∀ (caller id k : Nat) (r : Reservation) (s : State), s.reservation caller id = some r → r.timer = some k →
    exec (.reservationTimeout caller id) s = .next { s with xe := { s.xe with
      reservations := s.xe.reservations.filter fun x => ¬ (x.caller = caller ∧ x.callId = id) } })
  ∧ (∀ (fleet asker : Nat) (s : State),
    exec (.whereaboutsMemoryExpiry fleet asker) s = .next { s with xe := { s.xe with
      memory := s.xe.memory.filter fun m => ¬ (m.fleet = fleet ∧ m.asker = asker ∧ m.expiry ≠ none) } })

/-- An ASKED question that no answer meets in its time makes the asker adopt the bus: the question is OVER, the stray, doubled
and census flags are cleared, ADOPTED is queued. Of the record its place, fleet number, energy, place timer and award stay; the
repeat timer, which R82 stops where it runs for a doubled record, and the record's other fields are left open here. No other record
changes, nor the lanes, the line, the gate, the point, awards and digs, the exchanges, reservations and answers, the calling-wanted
order, the settings, or the replies and outputs that wait. -/
def Obligations.UnansweredQuestionAdoptsTheBus : Prop :=
  ∀ (i k : Nat) (q : Question) (r : Rec) (s : State), s.questionOf i = some q → q.state = .asked →
    q.answerTimer = some k → s.record i = some r →
    ∃ u, exec (.answerTimerExpiry i) s = .next u
      ∧ (∃ r', u.record i = some r' ∧ r'.stray = false ∧ r'.doubled = false ∧ r'.census = false ∧ r'.place = r.place
        ∧ r'.fleet = r.fleet ∧ r'.energy = r.energy ∧ r'.placeTimer = r.placeTimer ∧ r'.award = r.award)
      ∧ (∀ j, j ≠ i → u.record j = s.record j)
      ∧ u.xe.questions = s.xe.questions.map (fun x =>
          if x.record = i then { x with state := .over, wait := none, answerTimer := none } else x)
      ∧ FirstReport s u (.adopted r.fleet)
      ∧ u.rs.wantedOrder = s.rs.wantedOrder ∧ u.lm = s.lm ∧ u.lif = s.lif ∧ u.iu = s.iu ∧ u.ts = s.ts ∧ u.du = s.du
      ∧ u.xe.exchanges = s.xe.exchanges ∧ u.xe.reservations = s.xe.reservations ∧ u.xe.answers = s.xe.answers
      ∧ SetupKept s.toPart u.toPart ∧ u.fp.replies = s.fp.replies ∧ u.fp.outputs = s.fp.outputs

/-- The inbound limit of an EN_ROUTE record frees its allocation and makes it LOOSE with the loose limit running; the loose
limit of a LOOSE record deletes it. -/
def Obligations.UnconfirmedPlacesExpire : Prop :=
  (∀ (i k : Nat) (r : Rec) (s : State), s.record i = some r → r.place = .enRoute → r.placeTimer = some k →
    ∃ u, exec (.inboundLimitExpiry i) s = .next u
      ∧ (∃ r', u.record i = some r' ∧ r'.fleet = r.fleet ∧ r'.place = .loose ∧ r'.destination = none
        ∧ r'.placeTimer = some (30 * 60 * 1000) ∧ r'.age = r.age)
      ∧ (∀ n l, u.lane n = some l → ∀ a ∈ l.allocs, a.record ≠ i)
      ∧ OtherRecordsKept i s.toPart u.toPart ∧ SetupKept s.toPart u.toPart ∧ u.iu = s.iu ∧ u.ts = s.ts
      ∧ u.xe.reservations = s.xe.reservations ∧ u.xe.questions = s.xe.questions ∧ SameLine s.lif u.lif)
  ∧ (∀ (i k : Nat) (r : Rec) (s : State), s.record i = some r → r.place = .loose → r.placeTimer = some k →
    ∃ u, exec (.looseLimitExpiry i) s = .next u ∧ u.record i = none ∧ SetupKept s.toPart u.toPart
      ∧ u.xe.reservations = s.xe.reservations ∧ (∀ q ∈ u.xe.questions, q.record ≠ i)
      ∧ (∀ a ∈ u.xe.answers, a.record ≠ i))

/-- The repeat timer of an APRON record asks for a BERTH exchange again; that of a doubled record puts its question again,
without the gate flag (the model's choice, log entry 37). A record that is both has one timer (log entry 20): at its expiry
both happen, whichever of the two expiries is taken. -/
def Obligations.RepeatTimersAskAgain : Prop :=
  (∀ (i k id : Nat) (r : Rec) (s : State), s.record i = some r → r.place = .apron → r.repeatTimer = some k →
    r.shunt = false → s.exchangeOf i = none → s.freeExchangeId = some id → s.du.digs = [] →
    ∃ u, exec (.apronRepeat i) s = .next u
      ∧ (∃ e ∈ u.xe.exchanges, e.id = id ∧ e.record = i ∧ e.kind = .berth ∧ e.requester = .rs ∧ e.closing = false)
      ∧ (r.doubled = true → ∃ q ∈ u.xe.questions, q.record = i ∧ q.fleet = r.fleet ∧ q.gate = false ∧ q.state = .waiting)
      ∧ (r.doubled = false → u.xe.questions = s.xe.questions)
      ∧ (∃ r', u.record i = some r' ∧ r'.place = .apron ∧ r'.repeatTimer = none ∧ r'.fleet = r.fleet)
      ∧ OtherRecordsKept i s.toPart u.toPart ∧ SetupKept s.toPart u.toPart ∧ u.iu = s.iu ∧ u.ts = s.ts
      ∧ (∀ n, BothOrNone Lane.SettledTo (s.lane n) (u.lane n)))
  ∧ (∀ (i k : Nat) (r : Rec) (s : State), s.record i = some r → r.doubled = true → r.repeatTimer = some k →
    (r.place ≠ .apron →
      ∃ u, exec (.doubledRepeat i) s = .next u
        ∧ (∃ q ∈ u.xe.questions, q.record = i ∧ q.fleet = r.fleet ∧ q.gate = false ∧ q.state = .waiting)
        ∧ u.record i = some { r with repeatTimer := none } ∧ (∀ j, j ≠ i → u.record j = s.record j)
        ∧ u.lm = s.lm ∧ u.iu = s.iu ∧ u.ts = s.ts ∧ u.du = s.du ∧ u.fp = s.fp ∧ SetupKept s.toPart u.toPart
        ∧ u.xe.reservations = s.xe.reservations ∧ SameLine s.lif u.lif)
    ∧ (r.place = .apron → exec (.doubledRepeat i) s = exec (.apronRepeat i) s))

/-- The award limit withdraws the award: it is gone and its bus PARKED without an award. The dig limit gives the dig up: it is
gone, its lane OPEN, and the target's award withdrawn. What makes them: a bid that wins becomes an award where its record stands
PARKED under its fleet number, DIRECT at depth 0, else dug out where the call, the depth, the lane and the entries ahead allow,
else withdrawn at once (that no AWARD_MISSED is queued then is the model's choice, log entry 45); a bid without its record is void.
A dig puts its lane in DIG, lists the PARKED entries ahead, runs four minutes for each and calls the first. A DIRECT award behind
an entry that counts is withdrawn; a dig whose target stands first ends, its award DIRECT. Which comes first where one change
reaches several digs and awards (digs before awards, each in its list's order) is the model's choice (log entry 58). A waiting
award limit starts, at the award limit, where the award's record is the front of a lane that displays GO, and nowhere else; a
running one runs on. That a displayed GO starts it of a HELD lane too is the model's choice (log entry 56). -/
def Obligations.AwardAndDigLimitsEndThem : Prop :=
  (∀ (slot k : Nat) (a : Award) (r : Rec) (s : State), s.awardOfSlot slot = some a → a.timer = some k →
    s.record a.record = some r → r.place = .awarded → s.xe.notices.length < 8 →
    ∃ u, exec (.awardTimerExpiry slot) s = .next u
      ∧ (∀ x ∈ u.du.awards, x.slot ≠ slot)
      ∧ (∃ r', u.record a.record = some r' ∧ r'.place = .parked ∧ r'.award = none ∧ r'.fleet = r.fleet ∧ r'.age = r.age)
      ∧ (∃ q ∈ u.xe.notices, q.notice = { fleet := a.fleet, slot := slot, laneAlias := s.aliasOf a.lane,
                                          kind := .missed, tag := s.yc.seconds })
      ∧ YardKept s.toPart u.toPart ∧ u.xe.reservations = s.xe.reservations ∧ u.xe.questions = s.xe.questions)
  ∧ (∀ (lane k : Nat) (d : Dig) (a : Award) (l : Lane) (r : Rec) (s : State), s.digOf lane = some d → d.timer = some k →
    s.awardOfSlot d.slot = some a → a.mode = .digging → s.du.digs.find? (fun x => x.slot == d.slot) = some d →
    s.lane lane = some l → s.record a.record = some r → r.place = .awarded → s.xe.notices.length < 8 →
    ∃ u, exec (.digTimerExpiry lane) s = .next u
      ∧ (∀ x ∈ u.du.digs, x.lane ≠ lane) ∧ (∀ x ∈ u.du.awards, x.slot ≠ d.slot)
      ∧ (∃ l', u.lane lane = some l' ∧ l'.state = .opened ∧ l'.entries = l.entries)
      ∧ (∃ r', u.record a.record = some r' ∧ r'.place = .parked ∧ r'.award = none ∧ r'.fleet = r.fleet)
      ∧ (∃ q ∈ u.xe.notices, q.notice = { fleet := a.fleet, slot := d.slot, laneAlias := s.aliasOf a.lane,
                                          kind := .givenUp, tag := s.yc.seconds })
      ∧ YardKept s.toPart u.toPart ∧ u.xe.reservations = s.xe.reservations)
  ∧ (∀ (c : SlotCall) (i n k d : Nat) (l : Lane) (r : Rec) (p q : Part), q = bidWon c i r.fleet p → p.record i = some r →
    r.place = .parked → p.entryOf i = some (n, k) → p.lane n = some l → p.depth i = some d →
    (p.fp.reports.length < 32 → q.fp.reports[p.fp.reports.length]?
      = some { report := .award c.slot r.fleet l.laneAlias d, tag := p.yc.seconds })
    ∧ (d = 0 →
      q.record i = some { r with place := .awarded, award := some (c.slot, c.due) } ∧ q.du.digs = p.du.digs
      ∧ ∃ before after, p.du.awards = before ++ after
        ∧ q.du.awards = before ++ { slot := c.slot, due := c.due, record := i, fleet := r.fleet, lane := n
                                    mode := .direct, timer := none } :: after
        ∧ (∀ b ∈ before, b.due < c.due ∨ (b.due = c.due ∧ b.slot ≤ c.slot))
        ∧ (∀ b, after.head? = some b → c.due < b.due ∨ (c.due = b.due ∧ c.slot < b.slot)))
    ∧ (0 < d → d ≤ 3 → c.digAllowed = true → l.state = .opened → p.lanesInDig < 2 →
      (∀ e ∈ l.entries.take k, e.unconfirmed = false ∧ e.kind ≠ .untracked) → (∀ a ∈ p.du.awards, a.slot ≠ c.slot) →
      (p.du.digs.all fun x => x.lane ≠ n) →
      q.record i = some { r with place := .awarded, award := some (c.slot, c.due) }
      ∧ (∃ a ∈ q.du.awards, a.slot = c.slot ∧ a.record = i ∧ a.mode = .digging ∧ a.timer = none)
      ∧ (∃ l', q.lane n = some l' ∧ l'.state = .dig ∧ l'.entries = l.entries)
      ∧ ∃ g, q.digOf n = some g ∧ g.target = i ∧ g.targetFleet = r.fleet ∧ g.slot = c.slot ∧ g.phase = .calling
        ∧ g.blockers.length = d ∧ g.blockerCount = d ∧ g.timer = some (d * (4 * 60 * 1000))
        ∧ (∀ b, b ∈ g.blockers ↔ ∃ e ∈ l.entries.take k, e.kind = .tracked b.1 ∧ e.fleet = b.2
          ∧ p.recordIs b.1 .awarded = false)
        ∧ g.current = g.blockers.head?
        ∧ (∀ b rb, g.current = some b → p.record b.1 = some rb → b.1 ≠ i →
          ∃ rb', q.record b.1 = some rb' ∧ rb'.shunt = true ∧ rb'.attempts = 0))
    ∧ (0 < d → (c.digAllowed = false ∨ 3 < d ∨ 2 ≤ p.lanesInDig ∨ l.state ≠ .opened
        ∨ ∃ e ∈ l.entries.take k, e.unconfirmed = true ∨ e.kind = .untracked) → p.xe.notices.length < 8 →
      q.record i = some { r with award := none } ∧ (∀ a ∈ q.du.awards, a.slot ≠ c.slot)
      ∧ (∃ x ∈ q.xe.notices, x.notice = { fleet := r.fleet, slot := c.slot, laneAlias := l.laneAlias
                                          kind := if c.digAllowed then .givenUp else .missed, tag := p.yc.seconds })))
  ∧ (∀ (c : SlotCall) (i fleet : Nat) (p : Part),
    (p.entryOf i = none ∨ p.recordIs i .parked = false ∨ p.fleetOf i ≠ fleet) → p.xe.notices.length < 8 →
    p.fp.reports.length < 31 →
    let n : Notice := { fleet := fleet, slot := c.slot, laneAlias := p.lastAlias i fleet, kind := .missed
                        tag := p.yc.seconds }
    bidWon c i fleet p = { p with
      xe := { p.xe with notices := p.xe.notices ++ [{ notice := n, failures := 0 }] }
      fp := { p.fp with reports := p.fp.reports ++ [{ report := .departNotice n, tag := p.yc.seconds },
                                                    { report := .awardVoid c.slot fleet, tag := p.yc.seconds }] } })
  ∧ (∀ (p : Part) (a : Award) (r : Rec) (d : Nat), p.du.digs = [] → p.du.awards.head? = some a → a.mode = .direct →
    p.depth a.record = some d → d ≠ 0 → p.record a.record = some r → r.place = .awarded → p.xe.notices.length < 8 →
    ∃ q, reviewStep p = some q ∧ (∀ x ∈ q.du.awards, x.slot ≠ a.slot)
      ∧ q.record a.record = some { r with place := .parked, award := none }
      ∧ (∃ x ∈ q.xe.notices, x.notice = { fleet := a.fleet, slot := a.slot, laneAlias := p.aliasOf a.lane
                                          kind := .missed, tag := p.yc.seconds }))
  ∧ (∀ (p : Part) (g : Dig) (l : Lane), p.du.digs.head? = some g → p.entryOf g.target = some (g.lane, 0) →
    p.lane g.lane = some l →
    ∃ q, reviewStep p = some q ∧ (∀ x ∈ q.du.digs, x.lane ≠ g.lane)
      ∧ (∃ l', q.lane g.lane = some l' ∧ l'.state = .opened ∧ l'.entries = l.entries)
      ∧ q.du.awards = p.du.awards.map (fun a => if a.slot = g.slot then { a with mode := .direct } else a)
      ∧ q.xe.notices = p.xe.notices
      ∧ (p.fp.reports.length < 32 → q.fp.reports = p.fp.reports
          ++ [{ report := .digEnded g.slot g.targetFleet l.laneAlias .targetFront, tag := p.yc.seconds }]))
  ∧ (∀ (p : Part) (a : Award),
    (p.atGo a = true ↔ ∃ n l, p.entryOf a.record = some (n, 0) ∧ p.lane n = some l ∧ l.displayed = .go)
    ∧ (a.timer = none → p.atGo a = true → p.startLimit a = { a with timer := some (p.setting (·.awardLimit)) })
    ∧ (a.timer ≠ none ∨ p.atGo a = false → p.startLimit a = a)
    ∧ startLimits p = { p with du := { p.du with awards := p.du.awards.map p.startLimit } })
  ∧ (∀ (n i : Nat) (l : Lane) (e : Entry) (r : Rec) (s : State), s.receives → s.lane n = some l → l.state ≠ .dig →
    l.entries.head? = some e → e.kind = .tracked i → s.record i = some r → r.place = .awarded → s.entryOf i = some (n, 0) →
    (∃ u, exec (.laneOpen n) s = .next u
      ∧ (∀ a ∈ s.du.awards, a.record = i → a.timer = none → s.lif.lineState ≠ .lost →
        { a with timer := some (s.setting (·.awardLimit)) } ∈ u.du.awards)
      ∧ (∀ a ∈ s.du.awards, a.record = i → a.timer = none → s.lif.lineState = .lost → l.displayed ≠ .go →
        a ∈ u.du.awards)
      ∧ (∀ a ∈ s.du.awards, a.timer ≠ none → a ∈ u.du.awards))
    ∧ (∃ u, exec (.laneHold n) s = .next u
      ∧ (∀ a ∈ s.du.awards, a.record = i → a.timer = none → s.lif.lineState ≠ .lost → a ∈ u.du.awards)
      ∧ (∀ a ∈ s.du.awards, a.timer ≠ none → a ∈ u.du.awards)))

/-- A minute tick of a set clock stands at the next minute boundary, and raises by one, up to 1023, the standing age of every
PARKED or AWARDED record; no other record and no other field changes. The wash window is then evaluated at the new minute: OPEN
from wash open up to wash cut-off, round midnight where the cut-off comes first, CLOSED throughout where they are equal; a change
queues WASH_WINDOW. A clock that is not set gives no tick. That the command moves the clock to the boundary is the model's choice
(log entry 4). -/
def Obligations.MinuteTickAgesStandingBuses : Prop :=
  ∀ s : State,
    (s.yc.isSet = false → exec .minuteTick s = .next s)
    ∧ (s.yc.isSet = true →
      ∃ u, exec .minuteTick s = .next u
        ∧ u.yc.seconds = (s.yc.seconds / 60 * 60 + 60) % 86400 ∧ u.yc.partMs = 0 ∧ u.yc.isSet = true
        ∧ (∀ i, u.record i = (s.record i).map fun r =>
            if r.place = .parked ∨ r.place = .awarded then { r with age := min (r.age + 1) 1023 } else r)
        ∧ u.settings = s.settings ∧ u.identity = s.identity ∧ u.lm = s.lm ∧ u.iu = s.iu ∧ u.ts = s.ts ∧ u.du = s.du
        ∧ u.xe.reservations = s.xe.reservations ∧ u.xe.questions = s.xe.questions ∧ SameLine s.lif u.lif
        ∧ u.fp.replies = s.fp.replies ∧ u.fp.outputs = s.fp.outputs
        ∧ (s.settings = none → u.yc.washOpen = true)
        ∧ (∀ c, s.settings = some c →
          let minute := u.yc.seconds / 60
          u.yc.washOpen = (if c.washOpen < c.washCutOff then decide (c.washOpen ≤ minute ∧ minute < c.washCutOff)
            else if c.washCutOff < c.washOpen then decide (c.washOpen ≤ minute ∨ minute < c.washCutOff) else false))
        ∧ (u.yc.washOpen = s.yc.washOpen → u.fp.reports = s.fp.reports)
        ∧ (u.yc.washOpen ≠ s.yc.washOpen → s.fp.reports.length < 32 → u.fp.reports = s.fp.reports
            ++ [{ report := .washWindow u.yc.washOpen u.yc.seconds, tag := u.yc.seconds }])
        ∧ (∀ c, s.settings = some c → c.timeSource = true → s.lif.lineState = .active → s.lif.tx ≠ none →
          u.xe.timeMark = true))
end

