-- ==== Sys2Proof/WellFormed.lean ====
section
/-! DEFINITION. Which commands the part's formats can spell: every operand within the width of its field (sections 12.1
and 12.5). The meanings do not need it (log entry 26). -/

namespace Sys2Proof

/-- A value that one byte holds. -/
def isByte (n : Nat) : Bool := n < 256

/-- A value that two bytes hold. -/
def isWord (n : Nat) : Bool := n < 65536

/-- Each field of the tag within its bytes (section 12.5). -/
def RawTag.wf (t : RawTag) : Bool :=
  isWord t.fleet && isByte t.fuel && isByte t.lengthClass && isByte t.serviceClass && isByte t.energy && isByte t.washDue

/-- Each field of the frame within its bits: 16-bit cost, 5-bit node and addressee, 7-bit item, 0 to 24 body bytes (R40). -/
def RxFrame.wf (f : RxFrame) : Bool :=
  f.node < 32 && f.addressee < 32 && isWord f.cost && f.item < 128 && f.body.length ≤ 24

/-- The bits of a frame from its start bit, dominant, to its check: 59 with no body, 251 with 24 bytes (section 12.1). -/
def FlawedFrame.wf (f : FlawedFrame) : Bool :=
  59 ≤ f.bits.length && f.bits.length ≤ 251 && f.bits.length % 8 == 3 && f.bits.head? == some false

/-- The commands that the formats can spell. -/
def Instr.wf : Instr → Bool
  | .powerOnReset _ | .externalReset _ => true
  | .config body => body.length ≤ 250
  | .gateArrival tag => tag.wf
  | .laneEntryRead lane side tag =>
    isByte lane && isByte side.readerEnd && isByte side.direction && side.direction != 1 && tag.wf
  | .laneExitRead lane e fleet => isByte lane && isByte e && isWord fleet
  | .approachRead fleet => isWord fleet
  | .stationStart station fleet => isByte station && isWord fleet
  | .stationEnd station fleet endKind energy => isByte station && isWord fleet && isByte endKind && isByte energy
  | .stationClear station => isByte station
  | .pointOpen | .pointClose | .nextRequest | .clearCounters | .clearLost | .statusRequest => true
  | .levelHold level | .levelRelease level => isByte level
  | .laneHold lane | .laneOpen lane => isByte lane
  | .census lane lines => isByte lane && lines.length ≤ 82 && lines.all fun l => isWord l.1 && isByte l.2
  | .malformedMessage kind | .messageGapTimeout kind => isByte kind
  | .inputOverflow | .linkByteDiscarded | .outputLineFree => true
  | .timeMarkReceived f | .slotCallReceived f | .berthCallReceived f | .fuelCallReceived f | .washCallReceived f
  | .whereaboutsReceived f | .offerReceived f | .transferReceived f | .releaseReceived f | .heldReceived f
  | .departNoticeReceived f | .queryReceived f | .statusFrameReceived f | .nodeClaimReceived f => f.wf
  | .unusedKindFrame f => (f.kind == 14 || f.kind == 15) && f.frame.wf
  | .flawedFrameReceived frame => frame.wf
  | .transmitStart | .windowFirstBit _ | .lostContention => true
  -- an echo fault is at bit 34 at the earliest, and the check ends with bit 251 at the latest
  | .ownFrameVerdict slots _ => slots.rest.length ≤ 217
  | .echoFault bit => 34 ≤ bit && bit ≤ 251
  | .joiningComplete | .lineLost | .lostEnd | .standDownExpiry | .listeningPeriodExpiry | .confirmPeriodExpiry => true
  | .spacingTimerExpiry | .noticeWaitExpiry | .gateHoldExpiry | .minuteTick => true
  | .exchangeWaitExpiry exchange => exchange < 4
  | .reservationTimeout caller exchange => caller < 32 && isByte exchange
  | .questionWaitExpiry record | .answerTimerExpiry record | .answerWaitExpiry record => record < 96
  | .whereaboutsMemoryExpiry fleet asker => isWord fleet && asker < 32
  | .inboundLimitExpiry record | .looseLimitExpiry record | .apronRepeat record | .doubledRepeat record => record < 96
  | .grantLimitExpiry station | .overrunLimitExpiry station => 1 ≤ station && station ≤ 4
  | .awardTimerExpiry slot => slot < 4096
  | .digTimerExpiry lane => 1 ≤ lane && lane ≤ 6

end Sys2Proof
end

