-- ==== Sys2Proof/Laws/PerInstr.lean ====
section
/-! SUPPORT. Laws of every command as syntax, one lemma per constructor of `Instr`. -/

open Sys2Proof Sys2Proof.Machine

/-- The frame that a command carries, for the rows that carry one. -/
def Sys2Proof.Laws.heardFrame : Instr → Option RxFrame
  | .timeMarkReceived f | .slotCallReceived f | .berthCallReceived f | .fuelCallReceived f | .washCallReceived f
  | .whereaboutsReceived f | .offerReceived f | .transferReceived f | .releaseReceived f | .heldReceived f
  | .departNoticeReceived f | .queryReceived f | .statusFrameReceived f | .nodeClaimReceived f => some f
  | .unusedKindFrame f => some f.frame
  | _ => none

/-- The operands of a command that the formats can spell: its message kind is a byte, and the fields of the frame it carries
are within their bits (section 12.1). -/
def Sys2Proof.Laws.OperandLaw.Statement (i : Instr) : Prop :=
  i.wf = true →
    (∀ k, messageKind i = some k → k < 256)
    ∧ (∀ f, Sys2Proof.Laws.heardFrame i = some f →
        f.node < 32 ∧ f.addressee < 32 ∧ f.cost < 65536 ∧ f.item < 128 ∧ f.body.length ≤ 24)

/-- A command that carries no frame and is no field message obeys the law. -/
theorem Sys2Proof.Laws.OperandLaw.of_event {i : Instr} (hf : Sys2Proof.Laws.heardFrame i = none)
    (hm : messageKind i = none) : Sys2Proof.Laws.OperandLaw.Statement i :=
  fun _ => ⟨fun k hk => by simp [hm] at hk, fun f h => by simp [hf] at h⟩

/-- A field message obeys the law where its kind is a byte in a well-formed command. -/
theorem Sys2Proof.Laws.OperandLaw.of_message {i : Instr} (k : Nat) (hf : Sys2Proof.Laws.heardFrame i = none)
    (hm : messageKind i = some k) (hk : i.wf = true → isByte k = true) : Sys2Proof.Laws.OperandLaw.Statement i := by
  intro hw
  refine ⟨fun j hj => ?_, fun f h => by simp [hf] at h⟩
  obtain rfl : k = j := by simpa [hm] using hj
  simpa [isByte] using hk hw

/-- A command that carries a frame and is no field message obeys the law. -/
theorem Sys2Proof.Laws.OperandLaw.of_frame {i : Instr} {f : RxFrame} (hf : Sys2Proof.Laws.heardFrame i = some f)
    (hm : messageKind i = none) (hw : i.wf = true → f.wf = true) : Sys2Proof.Laws.OperandLaw.Statement i := by
  intro h
  refine ⟨fun k hk => by simp [hm] at hk, fun g hg => ?_⟩
  obtain rfl : f = g := by simpa [hf] using hg
  simpa [RxFrame.wf, isWord, and_assoc] using hw h

namespace Sys2Proof.Laws.OperandLaw

theorem powerOnReset (straps : LinkRate) : Statement (.powerOnReset straps) := of_event rfl rfl

theorem externalReset (straps : LinkRate) : Statement (.externalReset straps) := of_event rfl rfl

theorem config (body : List Byte) : Statement (.config body) := of_message 1 rfl rfl fun _ => rfl

theorem gateArrival (tag : RawTag) : Statement (.gateArrival tag) := of_message 2 rfl rfl fun _ => rfl

theorem laneEntryRead (lane : Nat) (side : ReadSide) (tag : RawTag) : Statement (.laneEntryRead lane side tag) := of_message 3 rfl rfl fun _ => rfl

theorem laneExitRead (lane readerEnd fleet : Nat) : Statement (.laneExitRead lane readerEnd fleet) := of_message 3 rfl rfl fun _ => rfl

theorem approachRead (fleet : Nat) : Statement (.approachRead fleet) := of_message 4 rfl rfl fun _ => rfl

theorem stationStart (station fleet : Nat) : Statement (.stationStart station fleet) := of_message 5 rfl rfl fun _ => rfl

theorem stationEnd (station fleet endKind energy : Nat) : Statement (.stationEnd station fleet endKind energy) := of_message 6 rfl rfl fun _ => rfl

theorem stationClear (station : Nat) : Statement (.stationClear station) := of_message 7 rfl rfl fun _ => rfl

theorem pointOpen : Statement .pointOpen := of_message 8 rfl rfl fun _ => rfl

theorem pointClose : Statement .pointClose := of_message 9 rfl rfl fun _ => rfl

theorem levelHold (level : Nat) : Statement (.levelHold level) := of_message 10 rfl rfl fun _ => rfl

theorem levelRelease (level : Nat) : Statement (.levelRelease level) := of_message 11 rfl rfl fun _ => rfl

theorem nextRequest : Statement .nextRequest := of_message 12 rfl rfl fun _ => rfl

theorem laneHold (lane : Nat) : Statement (.laneHold lane) := of_message 13 rfl rfl fun _ => rfl

theorem laneOpen (lane : Nat) : Statement (.laneOpen lane) := of_message 14 rfl rfl fun _ => rfl

theorem census (lane : Nat) (lines : List (Nat × Nat)) : Statement (.census lane lines) := of_message 15 rfl rfl fun _ => rfl

theorem clearCounters : Statement .clearCounters := of_message 16 rfl rfl fun _ => rfl

theorem clearLost : Statement .clearLost := of_message 17 rfl rfl fun _ => rfl

theorem statusRequest : Statement .statusRequest := of_message 18 rfl rfl fun _ => rfl

theorem malformedMessage (kind : Nat) : Statement (.malformedMessage kind) := of_message kind rfl rfl id

theorem inputOverflow : Statement .inputOverflow := of_event rfl rfl

theorem linkByteDiscarded : Statement .linkByteDiscarded := of_event rfl rfl

theorem messageGapTimeout (kind : Nat) : Statement (.messageGapTimeout kind) := of_message kind rfl rfl id

theorem outputLineFree : Statement .outputLineFree := of_event rfl rfl

theorem timeMarkReceived (frame : RxFrame) : Statement (.timeMarkReceived frame) := of_frame rfl rfl id

theorem slotCallReceived (frame : RxFrame) : Statement (.slotCallReceived frame) := of_frame rfl rfl id

theorem berthCallReceived (frame : RxFrame) : Statement (.berthCallReceived frame) := of_frame rfl rfl id

theorem fuelCallReceived (frame : RxFrame) : Statement (.fuelCallReceived frame) := of_frame rfl rfl id

theorem washCallReceived (frame : RxFrame) : Statement (.washCallReceived frame) := of_frame rfl rfl id

theorem whereaboutsReceived (frame : RxFrame) : Statement (.whereaboutsReceived frame) := of_frame rfl rfl id

theorem offerReceived (frame : RxFrame) : Statement (.offerReceived frame) := of_frame rfl rfl id

theorem transferReceived (frame : RxFrame) : Statement (.transferReceived frame) := of_frame rfl rfl id

theorem releaseReceived (frame : RxFrame) : Statement (.releaseReceived frame) := of_frame rfl rfl id

theorem heldReceived (frame : RxFrame) : Statement (.heldReceived frame) := of_frame rfl rfl id

theorem departNoticeReceived (frame : RxFrame) : Statement (.departNoticeReceived frame) := of_frame rfl rfl id

theorem queryReceived (frame : RxFrame) : Statement (.queryReceived frame) := of_frame rfl rfl id

theorem statusFrameReceived (frame : RxFrame) : Statement (.statusFrameReceived frame) := of_frame rfl rfl id

theorem nodeClaimReceived (frame : RxFrame) : Statement (.nodeClaimReceived frame) := of_frame rfl rfl id

theorem unusedKindFrame (frame : UnusedFrame) : Statement (.unusedKindFrame frame) :=
  of_frame rfl rfl fun h => (Bool.and_eq_true_iff.mp h).2

theorem flawedFrameReceived (frame : FlawedFrame) : Statement (.flawedFrameReceived frame) := of_event rfl rfl

theorem transmitStart : Statement .transmitStart := of_event rfl rfl

theorem windowFirstBit (otherStarts : Bool) : Statement (.windowFirstBit otherStarts) := of_event rfl rfl

theorem lostContention : Statement .lostContention := of_event rfl rfl

theorem echoFault (bit : Nat) : Statement (.echoFault bit) := of_event rfl rfl

theorem ownFrameVerdict (slots : Slots) (endBits : Byte) : Statement (.ownFrameVerdict slots endBits) :=
  of_event rfl rfl

theorem joiningComplete : Statement .joiningComplete := of_event rfl rfl

theorem lineLost : Statement .lineLost := of_event rfl rfl

theorem lostEnd : Statement .lostEnd := of_event rfl rfl

theorem standDownExpiry : Statement .standDownExpiry := of_event rfl rfl

theorem listeningPeriodExpiry : Statement .listeningPeriodExpiry := of_event rfl rfl

theorem confirmPeriodExpiry : Statement .confirmPeriodExpiry := of_event rfl rfl

theorem spacingTimerExpiry : Statement .spacingTimerExpiry := of_event rfl rfl

theorem exchangeWaitExpiry (exchange : Nat) : Statement (.exchangeWaitExpiry exchange) := of_event rfl rfl

theorem reservationTimeout (caller exchange : Nat) : Statement (.reservationTimeout caller exchange) := of_event rfl rfl

theorem questionWaitExpiry (record : Nat) : Statement (.questionWaitExpiry record) := of_event rfl rfl

theorem answerTimerExpiry (record : Nat) : Statement (.answerTimerExpiry record) := of_event rfl rfl

theorem answerWaitExpiry (record : Nat) : Statement (.answerWaitExpiry record) := of_event rfl rfl

theorem noticeWaitExpiry : Statement .noticeWaitExpiry := of_event rfl rfl

theorem whereaboutsMemoryExpiry (fleet asker : Nat) : Statement (.whereaboutsMemoryExpiry fleet asker) := of_event rfl rfl

theorem inboundLimitExpiry (record : Nat) : Statement (.inboundLimitExpiry record) := of_event rfl rfl

theorem looseLimitExpiry (record : Nat) : Statement (.looseLimitExpiry record) := of_event rfl rfl

theorem apronRepeat (record : Nat) : Statement (.apronRepeat record) := of_event rfl rfl

theorem doubledRepeat (record : Nat) : Statement (.doubledRepeat record) := of_event rfl rfl

theorem gateHoldExpiry : Statement .gateHoldExpiry := of_event rfl rfl

theorem grantLimitExpiry (station : Nat) : Statement (.grantLimitExpiry station) := of_event rfl rfl

theorem overrunLimitExpiry (station : Nat) : Statement (.overrunLimitExpiry station) := of_event rfl rfl

theorem awardTimerExpiry (slot : Nat) : Statement (.awardTimerExpiry slot) := of_event rfl rfl

theorem digTimerExpiry (lane : Nat) : Statement (.digTimerExpiry lane) := of_event rfl rfl

theorem minuteTick : Statement .minuteTick := of_event rfl rfl

end Sys2Proof.Laws.OperandLaw
end

