-- ==== Sys2Proof/Laws/State.lean ====
section
/-! SUPPORT. One lemma per block for each elementary update of the part: what it leaves, and the value of the block it writes.
Every one is true by unfolding, so that no later proof has to unfold an update. -/

namespace Sys2Proof.Machine

variable (p : Part)

/-! ### `enqueue` -/

@[simp] theorem enqueue_settings (o : Output) : (enqueue o p).settings = p.settings := rfl
@[simp] theorem enqueue_identity (o : Output) : (enqueue o p).identity = p.identity := rfl
@[simp] theorem enqueue_rs (o : Output) : (enqueue o p).rs = p.rs := rfl
@[simp] theorem enqueue_lm (o : Output) : (enqueue o p).lm = p.lm := rfl
@[simp] theorem enqueue_lif (o : Output) : (enqueue o p).lif = p.lif := rfl
@[simp] theorem enqueue_xe (o : Output) : (enqueue o p).xe = p.xe := rfl
@[simp] theorem enqueue_iu (o : Output) : (enqueue o p).iu = p.iu := rfl
@[simp] theorem enqueue_ts (o : Output) : (enqueue o p).ts = p.ts := rfl
@[simp] theorem enqueue_du (o : Output) : (enqueue o p).du = p.du := rfl
@[simp] theorem enqueue_yc (o : Output) : (enqueue o p).yc = p.yc := rfl
@[simp] theorem enqueue_fp (o : Output) : (enqueue o p).fp = { p.fp with outputs := p.fp.outputs ++ [o] } := rfl

/-! ### `dropOutput` -/

@[simp] theorem dropOutput_settings (k : Nat) : (dropOutput k p).settings = p.settings := rfl
@[simp] theorem dropOutput_identity (k : Nat) : (dropOutput k p).identity = p.identity := rfl
@[simp] theorem dropOutput_rs (k : Nat) : (dropOutput k p).rs = p.rs := rfl
@[simp] theorem dropOutput_lm (k : Nat) : (dropOutput k p).lm = p.lm := rfl
@[simp] theorem dropOutput_lif (k : Nat) : (dropOutput k p).lif = p.lif := rfl
@[simp] theorem dropOutput_xe (k : Nat) : (dropOutput k p).xe = p.xe := rfl
@[simp] theorem dropOutput_iu (k : Nat) : (dropOutput k p).iu = p.iu := rfl
@[simp] theorem dropOutput_ts (k : Nat) : (dropOutput k p).ts = p.ts := rfl
@[simp] theorem dropOutput_du (k : Nat) : (dropOutput k p).du = p.du := rfl
@[simp] theorem dropOutput_yc (k : Nat) : (dropOutput k p).yc = p.yc := rfl
@[simp] theorem dropOutput_fp (k : Nat) : (dropOutput k p).fp = { p.fp with outputs := p.fp.outputs.eraseIdx k } := rfl

/-! ### `countDroppedOutput` -/

@[simp] theorem countDroppedOutput_settings : (countDroppedOutput p).settings = p.settings := rfl
@[simp] theorem countDroppedOutput_identity : (countDroppedOutput p).identity = p.identity := rfl
@[simp] theorem countDroppedOutput_rs : (countDroppedOutput p).rs = p.rs := rfl
@[simp] theorem countDroppedOutput_lm : (countDroppedOutput p).lm = p.lm := rfl
@[simp] theorem countDroppedOutput_lif : (countDroppedOutput p).lif = p.lif := rfl
@[simp] theorem countDroppedOutput_xe : (countDroppedOutput p).xe = p.xe := rfl
@[simp] theorem countDroppedOutput_iu : (countDroppedOutput p).iu = p.iu := rfl
@[simp] theorem countDroppedOutput_ts : (countDroppedOutput p).ts = p.ts := rfl
@[simp] theorem countDroppedOutput_du : (countDroppedOutput p).du = p.du := rfl
@[simp] theorem countDroppedOutput_yc : (countDroppedOutput p).yc = p.yc := rfl
@[simp] theorem countDroppedOutput_fp :
    (countDroppedOutput p).fp = { p.fp with outputDropped := bump p.fp.outputDropped } := rfl

/-! ### `putRecord` -/

@[simp] theorem putRecord_settings (i : Nat) (r : Option Rec) : (putRecord i r p).settings = p.settings := rfl
@[simp] theorem putRecord_identity (i : Nat) (r : Option Rec) : (putRecord i r p).identity = p.identity := rfl
@[simp] theorem putRecord_rs (i : Nat) (r : Option Rec) :
    (putRecord i r p).rs = { p.rs with store := p.rs.store.set i r } := rfl
@[simp] theorem putRecord_lm (i : Nat) (r : Option Rec) : (putRecord i r p).lm = p.lm := rfl
@[simp] theorem putRecord_lif (i : Nat) (r : Option Rec) : (putRecord i r p).lif = p.lif := rfl
@[simp] theorem putRecord_xe (i : Nat) (r : Option Rec) : (putRecord i r p).xe = p.xe := rfl
@[simp] theorem putRecord_iu (i : Nat) (r : Option Rec) : (putRecord i r p).iu = p.iu := rfl
@[simp] theorem putRecord_ts (i : Nat) (r : Option Rec) : (putRecord i r p).ts = p.ts := rfl
@[simp] theorem putRecord_du (i : Nat) (r : Option Rec) : (putRecord i r p).du = p.du := rfl
@[simp] theorem putRecord_yc (i : Nat) (r : Option Rec) : (putRecord i r p).yc = p.yc := rfl
@[simp] theorem putRecord_fp (i : Nat) (r : Option Rec) : (putRecord i r p).fp = p.fp := rfl

/-! ### `freeAlloc` -/

@[simp] theorem freeAlloc_settings (i : Nat) : (freeAlloc i p).settings = p.settings := rfl
@[simp] theorem freeAlloc_identity (i : Nat) : (freeAlloc i p).identity = p.identity := rfl
@[simp] theorem freeAlloc_rs (i : Nat) : (freeAlloc i p).rs = p.rs := rfl
@[simp] theorem freeAlloc_lif (i : Nat) : (freeAlloc i p).lif = p.lif := rfl
@[simp] theorem freeAlloc_xe (i : Nat) : (freeAlloc i p).xe = p.xe := rfl
@[simp] theorem freeAlloc_iu (i : Nat) : (freeAlloc i p).iu = p.iu := rfl
@[simp] theorem freeAlloc_ts (i : Nat) : (freeAlloc i p).ts = p.ts := rfl
@[simp] theorem freeAlloc_du (i : Nat) : (freeAlloc i p).du = p.du := rfl
@[simp] theorem freeAlloc_yc (i : Nat) : (freeAlloc i p).yc = p.yc := rfl
@[simp] theorem freeAlloc_fp (i : Nat) : (freeAlloc i p).fp = p.fp := rfl

/-! ### `makeOutbound` -/

@[simp] theorem makeOutbound_settings (i : Nat) : (makeOutbound i p).settings = p.settings := rfl
@[simp] theorem makeOutbound_identity (i : Nat) : (makeOutbound i p).identity = p.identity := rfl
@[simp] theorem makeOutbound_rs (i : Nat) : (makeOutbound i p).rs = p.rs := rfl
@[simp] theorem makeOutbound_lif (i : Nat) : (makeOutbound i p).lif = p.lif := rfl
@[simp] theorem makeOutbound_xe (i : Nat) : (makeOutbound i p).xe = p.xe := rfl
@[simp] theorem makeOutbound_iu (i : Nat) : (makeOutbound i p).iu = p.iu := rfl
@[simp] theorem makeOutbound_ts (i : Nat) : (makeOutbound i p).ts = p.ts := rfl
@[simp] theorem makeOutbound_du (i : Nat) : (makeOutbound i p).du = p.du := rfl
@[simp] theorem makeOutbound_yc (i : Nat) : (makeOutbound i p).yc = p.yc := rfl
@[simp] theorem makeOutbound_fp (i : Nat) : (makeOutbound i p).fp = p.fp := rfl

/-! ### `modLif` -/

@[simp] theorem modLif_settings (f : LineInterface → LineInterface) : (modLif f p).settings = p.settings := rfl
@[simp] theorem modLif_identity (f : LineInterface → LineInterface) : (modLif f p).identity = p.identity := rfl
@[simp] theorem modLif_rs (f : LineInterface → LineInterface) : (modLif f p).rs = p.rs := rfl
@[simp] theorem modLif_lm (f : LineInterface → LineInterface) : (modLif f p).lm = p.lm := rfl
@[simp] theorem modLif_lif (f : LineInterface → LineInterface) : (modLif f p).lif = f p.lif := rfl
@[simp] theorem modLif_xe (f : LineInterface → LineInterface) : (modLif f p).xe = p.xe := rfl
@[simp] theorem modLif_iu (f : LineInterface → LineInterface) : (modLif f p).iu = p.iu := rfl
@[simp] theorem modLif_ts (f : LineInterface → LineInterface) : (modLif f p).ts = p.ts := rfl
@[simp] theorem modLif_du (f : LineInterface → LineInterface) : (modLif f p).du = p.du := rfl
@[simp] theorem modLif_yc (f : LineInterface → LineInterface) : (modLif f p).yc = p.yc := rfl
@[simp] theorem modLif_fp (f : LineInterface → LineInterface) : (modLif f p).fp = p.fp := rfl

/-! ### `modCounters` -/

@[simp] theorem modCounters_settings (f : Counters → Counters) : (modCounters f p).settings = p.settings := rfl
@[simp] theorem modCounters_identity (f : Counters → Counters) : (modCounters f p).identity = p.identity := rfl
@[simp] theorem modCounters_rs (f : Counters → Counters) : (modCounters f p).rs = p.rs := rfl
@[simp] theorem modCounters_lm (f : Counters → Counters) : (modCounters f p).lm = p.lm := rfl
@[simp] theorem modCounters_lif (f : Counters → Counters) :
    (modCounters f p).lif = { p.lif with counters := f p.lif.counters } := rfl
@[simp] theorem modCounters_xe (f : Counters → Counters) : (modCounters f p).xe = p.xe := rfl
@[simp] theorem modCounters_iu (f : Counters → Counters) : (modCounters f p).iu = p.iu := rfl
@[simp] theorem modCounters_ts (f : Counters → Counters) : (modCounters f p).ts = p.ts := rfl
@[simp] theorem modCounters_du (f : Counters → Counters) : (modCounters f p).du = p.du := rfl
@[simp] theorem modCounters_yc (f : Counters → Counters) : (modCounters f p).yc = p.yc := rfl
@[simp] theorem modCounters_fp (f : Counters → Counters) : (modCounters f p).fp = p.fp := rfl

/-! ### `countOwnFailure` -/

@[simp] theorem countOwnFailure_settings (d a : Bool) : (countOwnFailure d a p).settings = p.settings := rfl
@[simp] theorem countOwnFailure_identity (d a : Bool) : (countOwnFailure d a p).identity = p.identity := rfl
@[simp] theorem countOwnFailure_rs (d a : Bool) : (countOwnFailure d a p).rs = p.rs := rfl
@[simp] theorem countOwnFailure_lm (d a : Bool) : (countOwnFailure d a p).lm = p.lm := rfl
@[simp] theorem countOwnFailure_lif (d a : Bool) :
    (countOwnFailure d a p).lif = { p.lif with counters :=
      if d || a then p.lif.counters else { p.lif.counters with ownFailures := bump p.lif.counters.ownFailures } } := rfl
@[simp] theorem countOwnFailure_xe (d a : Bool) : (countOwnFailure d a p).xe = p.xe := rfl
@[simp] theorem countOwnFailure_iu (d a : Bool) : (countOwnFailure d a p).iu = p.iu := rfl
@[simp] theorem countOwnFailure_ts (d a : Bool) : (countOwnFailure d a p).ts = p.ts := rfl
@[simp] theorem countOwnFailure_du (d a : Bool) : (countOwnFailure d a p).du = p.du := rfl
@[simp] theorem countOwnFailure_yc (d a : Bool) : (countOwnFailure d a p).yc = p.yc := rfl
@[simp] theorem countOwnFailure_fp (d a : Bool) : (countOwnFailure d a p).fp = p.fp := rfl

/-! ### `countVerdict` -/

@[simp] theorem countVerdict_settings (d a : Bool) : (countVerdict d a p).settings = p.settings := rfl
@[simp] theorem countVerdict_identity (d a : Bool) : (countVerdict d a p).identity = p.identity := rfl
@[simp] theorem countVerdict_rs (d a : Bool) : (countVerdict d a p).rs = p.rs := rfl
@[simp] theorem countVerdict_lm (d a : Bool) : (countVerdict d a p).lm = p.lm := rfl
@[simp] theorem countVerdict_lif (d a : Bool) :
    (countVerdict d a p).lif = { (countOwnFailure d a p).lif with
      consecutiveFailures := if d then 0 else p.lif.consecutiveFailures + 1 } := rfl
@[simp] theorem countVerdict_xe (d a : Bool) : (countVerdict d a p).xe = p.xe := rfl
@[simp] theorem countVerdict_iu (d a : Bool) : (countVerdict d a p).iu = p.iu := rfl
@[simp] theorem countVerdict_ts (d a : Bool) : (countVerdict d a p).ts = p.ts := rfl
@[simp] theorem countVerdict_du (d a : Bool) : (countVerdict d a p).du = p.du := rfl
@[simp] theorem countVerdict_yc (d a : Bool) : (countVerdict d a p).yc = p.yc := rfl
@[simp] theorem countVerdict_fp (d a : Bool) : (countVerdict d a p).fp = p.fp := rfl

/-! ### `clearTx` -/

@[simp] theorem clearTx_settings : (clearTx p).settings = p.settings := rfl
@[simp] theorem clearTx_identity : (clearTx p).identity = p.identity := rfl
@[simp] theorem clearTx_rs : (clearTx p).rs = p.rs := rfl
@[simp] theorem clearTx_lm : (clearTx p).lm = p.lm := rfl
@[simp] theorem clearTx_lif : (clearTx p).lif = { p.lif with tx := none, lineBits := [] } := rfl
@[simp] theorem clearTx_xe : (clearTx p).xe = p.xe := rfl
@[simp] theorem clearTx_iu : (clearTx p).iu = p.iu := rfl
@[simp] theorem clearTx_ts : (clearTx p).ts = p.ts := rfl
@[simp] theorem clearTx_du : (clearTx p).du = p.du := rfl
@[simp] theorem clearTx_yc : (clearTx p).yc = p.yc := rfl
@[simp] theorem clearTx_fp : (clearTx p).fp = p.fp := rfl

/-! ### `readBits` and `frameEnded` -/

@[simp] theorem readBits_settings (bits : List Bool) : (readBits bits p).settings = p.settings := rfl
@[simp] theorem readBits_identity (bits : List Bool) : (readBits bits p).identity = p.identity := rfl
@[simp] theorem readBits_rs (bits : List Bool) : (readBits bits p).rs = p.rs := rfl
@[simp] theorem readBits_lm (bits : List Bool) : (readBits bits p).lm = p.lm := rfl
@[simp] theorem readBits_xe (bits : List Bool) : (readBits bits p).xe = p.xe := rfl
@[simp] theorem readBits_iu (bits : List Bool) : (readBits bits p).iu = p.iu := rfl
@[simp] theorem readBits_ts (bits : List Bool) : (readBits bits p).ts = p.ts := rfl
@[simp] theorem readBits_du (bits : List Bool) : (readBits bits p).du = p.du := rfl
@[simp] theorem readBits_yc (bits : List Bool) : (readBits bits p).yc = p.yc := rfl
@[simp] theorem readBits_fp (bits : List Bool) : (readBits bits p).fp = p.fp := rfl
@[simp] theorem readBits_lif (bits : List Bool) : (readBits bits p).lif = bits.foldl LineInterface.countBit p.lif := rfl

/-- Counting a bit changes the two timers and the gap alone (R39, R43). -/
theorem countBit_eq (l : LineInterface) (b : Bool) :
    l.countBit b = { l with quiet := (l.countBit b).quiet, stuck := (l.countBit b).stuck, gap := (l.countBit b).gap } := by
  cases b <;> rfl

/-- Some bits read alike, counted in one go, are those bits counted one by one (R39). -/
theorem countRun_eq (b : Bool) (n : Nat) (l : LineInterface) :
    l.countRun b n = (List.replicate n b).foldl LineInterface.countBit l := by
  induction n generalizing l with
  | zero => rfl
  | succ n ih =>
    rw [List.replicate_succ, List.foldl_cons, ← ih]
    cases b <;> cases n <;> simp [LineInterface.countRun, LineInterface.countBit] <;> omega

/-- The bits of a passing millisecond change the two timers and the gap alone (R39). -/
theorem passBits_eq (l : LineInterface) :
    l.passBits = { l with quiet := l.passBits.quiet, stuck := l.passBits.stuck, gap := l.passBits.gap } := by
  unfold LineInterface.passBits LineInterface.countRun
  split <;> [rfl; (split <;> [rfl; (split <;> rfl)])]

/-- Reading bits changes the two timers and the gap alone (R39, R43). -/
theorem countBits_eq (bits : List Bool) (l : LineInterface) :
    bits.foldl LineInterface.countBit l
      = { l with quiet := (bits.foldl LineInterface.countBit l).quiet
                 stuck := (bits.foldl LineInterface.countBit l).stuck
                 gap := (bits.foldl LineInterface.countBit l).gap } := by
  induction bits generalizing l with
  | nil => rfl
  | cons b bits ih =>
    rw [List.foldl_cons, ih (l.countBit b), countBit_eq l b]

/-- The quiet timer after bits: their last run of recessive ones, on top of what it held where all are (R39). -/
theorem countBits_quiet (bits : List Bool) (l : LineInterface) :
    (bits.foldl LineInterface.countBit l).quiet
      = if bits.all id then l.quiet + bits.length else recessiveRun bits := by
  induction bits using List.reverseRecOn with
  | nil => rfl
  | append_singleton bits b ih =>
    cases b <;> simp [LineInterface.countBit, recessiveRun] at ih ⊢
    split at ih <;> rename_i h <;> simp [ih, h, Nat.add_assoc]

/-- The gap after bits, as the quiet timer (R43). -/
theorem countBits_gap (bits : List Bool) (l : LineInterface) :
    (bits.foldl LineInterface.countBit l).gap = if bits.all id then l.gap + bits.length else recessiveRun bits := by
  induction bits using List.reverseRecOn with
  | nil => rfl
  | append_singleton bits b ih =>
    cases b <;> simp [LineInterface.countBit, recessiveRun] at ih ⊢
    split at ih <;> rename_i h <;> simp [ih, h, Nat.add_assoc]

/-- The recessive run that ends two lists of bits. -/
theorem recessiveRun_append (as bs : List Bool) :
    recessiveRun (as ++ bs) = if bs.all id then recessiveRun as + bs.length else recessiveRun bs := by
  induction bs using List.reverseRecOn with
  | nil => simp
  | append_singleton bs b ih =>
    cases b <;> simp [recessiveRun] at ih ⊢
    split at ih <;> rename_i h <;> simp [ih, h]
    omega

/-- What is left of the gap to n bits is recessive: the quiet timer and the gap count it, and it restarts the stuck timer. -/
theorem readGap_lif (n : Nat) :
    (readGap n p).lif = { p.lif with
      quiet := p.lif.quiet + (n - p.lif.gap), gap := p.lif.gap + (n - p.lif.gap)
      stuck := if p.lif.gap < n then 0 else p.lif.stuck } := by
  rw [readGap, readBits_lif, ← countRun_eq, LineInterface.countRun]
  by_cases h : n - p.lif.gap = 0
  · simp [h, show ¬ p.lif.gap < n by omega]
  · simp [h, show p.lif.gap < n by omega]

@[simp] theorem uncount_settings : (uncount p).settings = p.settings := rfl
@[simp] theorem uncount_identity : (uncount p).identity = p.identity := rfl
@[simp] theorem uncount_rs : (uncount p).rs = p.rs := rfl
@[simp] theorem uncount_lm : (uncount p).lm = p.lm := rfl
@[simp] theorem uncount_xe : (uncount p).xe = p.xe := rfl
@[simp] theorem uncount_iu : (uncount p).iu = p.iu := rfl
@[simp] theorem uncount_ts : (uncount p).ts = p.ts := rfl
@[simp] theorem uncount_du : (uncount p).du = p.du := rfl
@[simp] theorem uncount_yc : (uncount p).yc = p.yc := rfl
@[simp] theorem uncount_fp : (uncount p).fp = p.fp := rfl
@[simp] theorem uncount_lif : (uncount p).lif = if p.lif.rx.isEmpty then p.lif else { p.lif with stuck := 0 } := rfl

/-- A frame's recount changes the stuck timer alone. -/
theorem uncount_eq : (uncount p).lif = { p.lif with stuck := (uncount p).lif.stuck } := by
  rw [uncount_lif]; split <;> rfl

@[simp] theorem frameEnded_settings (bits : List Bool) (a f : Bool) (e : Byte) (da df : Bool) :
    (frameEnded bits a f e da df p).settings = p.settings := rfl
@[simp] theorem frameEnded_identity (bits : List Bool) (a f : Bool) (e : Byte) (da df : Bool) :
    (frameEnded bits a f e da df p).identity = p.identity := rfl
@[simp] theorem frameEnded_rs (bits : List Bool) (a f : Bool) (e : Byte) (da df : Bool) :
    (frameEnded bits a f e da df p).rs = p.rs := rfl
@[simp] theorem frameEnded_lm (bits : List Bool) (a f : Bool) (e : Byte) (da df : Bool) :
    (frameEnded bits a f e da df p).lm = p.lm := rfl
@[simp] theorem frameEnded_xe (bits : List Bool) (a f : Bool) (e : Byte) (da df : Bool) :
    (frameEnded bits a f e da df p).xe = p.xe := rfl
@[simp] theorem frameEnded_iu (bits : List Bool) (a f : Bool) (e : Byte) (da df : Bool) :
    (frameEnded bits a f e da df p).iu = p.iu := rfl
@[simp] theorem frameEnded_ts (bits : List Bool) (a f : Bool) (e : Byte) (da df : Bool) :
    (frameEnded bits a f e da df p).ts = p.ts := rfl
@[simp] theorem frameEnded_du (bits : List Bool) (a f : Bool) (e : Byte) (da df : Bool) :
    (frameEnded bits a f e da df p).du = p.du := rfl
@[simp] theorem frameEnded_yc (bits : List Bool) (a f : Bool) (e : Byte) (da df : Bool) :
    (frameEnded bits a f e da df p).yc = p.yc := rfl
@[simp] theorem frameEnded_fp (bits : List Bool) (a f : Bool) (e : Byte) (da df : Bool) :
    (frameEnded bits a f e da df p).fp = p.fp := rfl
@[simp] theorem frameEnded_lif (bits : List Bool) (a f : Bool) (e : Byte) (da df : Bool) :
    (frameEnded bits a f e da df p).lif =
      { (endField e).foldl LineInterface.countBit
          { (bits ++ slotBits (a || da) (f || df)).foldl LineInterface.countBit p.lif with gap := 0 } with
        droveAck := da, droveFlaw := df, rx := [] } := rfl

/-- The line state, and every other field but the timers, the gap, the driven slots and the receive frame, outlasts a frame's
end. -/
theorem frameEnded_eq (bits : List Bool) (a f : Bool) (e : Byte) (da df : Bool) :
    (frameEnded bits a f e da df p).lif = { p.lif with
      quiet := (frameEnded bits a f e da df p).lif.quiet, stuck := (frameEnded bits a f e da df p).lif.stuck
      gap := (frameEnded bits a f e da df p).lif.gap, droveAck := da, droveFlaw := df, rx := [] } := by
  rw [frameEnded_lif, countBits_eq, countBits_eq (bits ++ _)]

/-- The quiet timer after a frame in which some bit was dominant, as its start bit is: the run of recessive bits that ends it
(R39, R40). -/
theorem frameEnded_quiet (bits : List Bool) (a f : Bool) (e : Byte) (da df : Bool) (h : false ∈ bits) :
    (frameEnded bits a f e da df p).lif.quiet = recessiveRun (bits ++ closingBits (a || da) (f || df) e) := by
  have hs : (bits ++ slotBits (a || da) (f || df)).all id = false := by
    rw [List.all_eq_false]
    exact ⟨false, List.mem_append_left _ h, by simp⟩
  simp only [frameEnded_lif, countBits_quiet, hs, closingBits, ← List.append_assoc, recessiveRun_append _ (endField e),
    Bool.false_eq_true, if_false]

/-- The gap after a frame: the recessive bits that its end field ends with (R40, R43). -/
theorem frameEnded_gap (bits : List Bool) (a f : Bool) (e : Byte) (da df : Bool) :
    (frameEnded bits a f e da df p).lif.gap = recessiveRun (endField e) := by
  have : ∀ l : List Bool, l.all id = true → l.length = recessiveRun l := by
    intro l hl
    have := recessiveRun_append [] l
    simpa [hl, recessiveRun] using this.symm
  simp only [frameEnded_lif, countBits_gap, Nat.zero_add]
  split
  · exact this _ ‹_›
  · rfl

/-! ### `resetCounts` -/

@[simp] theorem resetCounts_settings : (resetCounts p).settings = p.settings := rfl
@[simp] theorem resetCounts_identity : (resetCounts p).identity = p.identity := rfl
@[simp] theorem resetCounts_rs : (resetCounts p).rs = p.rs := rfl
@[simp] theorem resetCounts_lm : (resetCounts p).lm = p.lm := rfl
@[simp] theorem resetCounts_lif :
    (resetCounts p).lif = { p.lif with consecutiveFailures := 0, consecutiveFlaws := 0 } := rfl
@[simp] theorem resetCounts_xe : (resetCounts p).xe = p.xe := rfl
@[simp] theorem resetCounts_iu : (resetCounts p).iu = p.iu := rfl
@[simp] theorem resetCounts_ts : (resetCounts p).ts = p.ts := rfl
@[simp] theorem resetCounts_du : (resetCounts p).du = p.du := rfl
@[simp] theorem resetCounts_yc : (resetCounts p).yc = p.yc := rfl
@[simp] theorem resetCounts_fp : (resetCounts p).fp = p.fp := rfl

/-! ### `enterState` -/

@[simp] theorem enterState_settings (st : LineState) : (enterState st p).settings = p.settings := rfl
@[simp] theorem enterState_identity (st : LineState) : (enterState st p).identity = p.identity := rfl
@[simp] theorem enterState_rs (st : LineState) : (enterState st p).rs = p.rs := rfl
@[simp] theorem enterState_lm (st : LineState) : (enterState st p).lm = p.lm := rfl
@[simp] theorem enterState_lif (st : LineState) : (enterState st p).lif = { p.lif with lineState := st } := rfl
@[simp] theorem enterState_xe (st : LineState) : (enterState st p).xe = p.xe := rfl
@[simp] theorem enterState_iu (st : LineState) : (enterState st p).iu = p.iu := rfl
@[simp] theorem enterState_ts (st : LineState) : (enterState st p).ts = p.ts := rfl
@[simp] theorem enterState_du (st : LineState) : (enterState st p).du = p.du := rfl
@[simp] theorem enterState_yc (st : LineState) : (enterState st p).yc = p.yc := rfl
@[simp] theorem enterState_fp (st : LineState) : (enterState st p).fp = p.fp := rfl

/-! ### `placeFrame` -/

@[simp] theorem placeFrame_settings (k : FrameKey) (f : Frame) : (placeFrame k f p).settings = p.settings := rfl
@[simp] theorem placeFrame_identity (k : FrameKey) (f : Frame) : (placeFrame k f p).identity = p.identity := rfl
@[simp] theorem placeFrame_rs (k : FrameKey) (f : Frame) : (placeFrame k f p).rs = p.rs := rfl
@[simp] theorem placeFrame_lm (k : FrameKey) (f : Frame) : (placeFrame k f p).lm = p.lm := rfl
@[simp] theorem placeFrame_xe (k : FrameKey) (f : Frame) : (placeFrame k f p).xe = p.xe := rfl
@[simp] theorem placeFrame_iu (k : FrameKey) (f : Frame) : (placeFrame k f p).iu = p.iu := rfl
@[simp] theorem placeFrame_ts (k : FrameKey) (f : Frame) : (placeFrame k f p).ts = p.ts := rfl
@[simp] theorem placeFrame_du (k : FrameKey) (f : Frame) : (placeFrame k f p).du = p.du := rfl
@[simp] theorem placeFrame_yc (k : FrameKey) (f : Frame) : (placeFrame k f p).yc = p.yc := rfl
@[simp] theorem placeFrame_fp (k : FrameKey) (f : Frame) : (placeFrame k f p).fp = p.fp := rfl

/-! ### `openWindow` -/

@[simp] theorem openWindow_settings (c : WindowCall) : (openWindow c p).settings = p.settings := rfl
@[simp] theorem openWindow_identity (c : WindowCall) : (openWindow c p).identity = p.identity := rfl
@[simp] theorem openWindow_rs (c : WindowCall) : (openWindow c p).rs = p.rs := rfl
@[simp] theorem openWindow_lm (c : WindowCall) : (openWindow c p).lm = p.lm := rfl
@[simp] theorem openWindow_lif (c : WindowCall) :
    (openWindow c p).lif = { p.lif with window := { cond := .pending, call := some c, reopens := 0 } } := rfl
@[simp] theorem openWindow_xe (c : WindowCall) : (openWindow c p).xe = p.xe := rfl
@[simp] theorem openWindow_iu (c : WindowCall) : (openWindow c p).iu = p.iu := rfl
@[simp] theorem openWindow_ts (c : WindowCall) : (openWindow c p).ts = p.ts := rfl
@[simp] theorem openWindow_du (c : WindowCall) : (openWindow c p).du = p.du := rfl
@[simp] theorem openWindow_yc (c : WindowCall) : (openWindow c p).yc = p.yc := rfl
@[simp] theorem openWindow_fp (c : WindowCall) : (openWindow c p).fp = p.fp := rfl

/-! ### `shutWindow` -/

@[simp] theorem shutWindow_settings : (shutWindow p).settings = p.settings := rfl
@[simp] theorem shutWindow_identity : (shutWindow p).identity = p.identity := rfl
@[simp] theorem shutWindow_rs : (shutWindow p).rs = p.rs := rfl
@[simp] theorem shutWindow_lm : (shutWindow p).lm = p.lm := rfl
@[simp] theorem shutWindow_lif : (shutWindow p).lif = { p.lif with window := Window.shut } := rfl
@[simp] theorem shutWindow_xe : (shutWindow p).xe = p.xe := rfl
@[simp] theorem shutWindow_iu : (shutWindow p).iu = p.iu := rfl
@[simp] theorem shutWindow_ts : (shutWindow p).ts = p.ts := rfl
@[simp] theorem shutWindow_du : (shutWindow p).du = p.du := rfl
@[simp] theorem shutWindow_yc : (shutWindow p).yc = p.yc := rfl
@[simp] theorem shutWindow_fp : (shutWindow p).fp = p.fp := rfl

/-! ### `modExchange` -/

@[simp] theorem modExchange_settings (id : Nat) (f : Exchange → Exchange) : (modExchange id f p).settings = p.settings := rfl
@[simp] theorem modExchange_identity (id : Nat) (f : Exchange → Exchange) : (modExchange id f p).identity = p.identity := rfl
@[simp] theorem modExchange_rs (id : Nat) (f : Exchange → Exchange) : (modExchange id f p).rs = p.rs := rfl
@[simp] theorem modExchange_lm (id : Nat) (f : Exchange → Exchange) : (modExchange id f p).lm = p.lm := rfl
@[simp] theorem modExchange_lif (id : Nat) (f : Exchange → Exchange) : (modExchange id f p).lif = p.lif := rfl
@[simp] theorem modExchange_xe (id : Nat) (f : Exchange → Exchange) :
    (modExchange id f p).xe = { p.xe with exchanges := p.xe.exchanges.map fun e => if e.id == id then f e else e } := rfl
@[simp] theorem modExchange_iu (id : Nat) (f : Exchange → Exchange) : (modExchange id f p).iu = p.iu := rfl
@[simp] theorem modExchange_ts (id : Nat) (f : Exchange → Exchange) : (modExchange id f p).ts = p.ts := rfl
@[simp] theorem modExchange_du (id : Nat) (f : Exchange → Exchange) : (modExchange id f p).du = p.du := rfl
@[simp] theorem modExchange_yc (id : Nat) (f : Exchange → Exchange) : (modExchange id f p).yc = p.yc := rfl
@[simp] theorem modExchange_fp (id : Nat) (f : Exchange → Exchange) : (modExchange id f p).fp = p.fp := rfl

/-! ### `modQuestion` -/

@[simp] theorem modQuestion_settings (i : Nat) (f : Question → Question) : (modQuestion i f p).settings = p.settings := rfl
@[simp] theorem modQuestion_identity (i : Nat) (f : Question → Question) : (modQuestion i f p).identity = p.identity := rfl
@[simp] theorem modQuestion_rs (i : Nat) (f : Question → Question) : (modQuestion i f p).rs = p.rs := rfl
@[simp] theorem modQuestion_lm (i : Nat) (f : Question → Question) : (modQuestion i f p).lm = p.lm := rfl
@[simp] theorem modQuestion_lif (i : Nat) (f : Question → Question) : (modQuestion i f p).lif = p.lif := rfl
@[simp] theorem modQuestion_xe (i : Nat) (f : Question → Question) :
    (modQuestion i f p).xe = { p.xe with questions := p.xe.questions.map fun q => if q.record == i then f q else q } := rfl
@[simp] theorem modQuestion_iu (i : Nat) (f : Question → Question) : (modQuestion i f p).iu = p.iu := rfl
@[simp] theorem modQuestion_ts (i : Nat) (f : Question → Question) : (modQuestion i f p).ts = p.ts := rfl
@[simp] theorem modQuestion_du (i : Nat) (f : Question → Question) : (modQuestion i f p).du = p.du := rfl
@[simp] theorem modQuestion_yc (i : Nat) (f : Question → Question) : (modQuestion i f p).yc = p.yc := rfl
@[simp] theorem modQuestion_fp (i : Nat) (f : Question → Question) : (modQuestion i f p).fp = p.fp := rfl

/-! ### `modAnswer` -/

@[simp] theorem modAnswer_settings (i : Nat) (f : Answer → Answer) : (modAnswer i f p).settings = p.settings := rfl
@[simp] theorem modAnswer_identity (i : Nat) (f : Answer → Answer) : (modAnswer i f p).identity = p.identity := rfl
@[simp] theorem modAnswer_rs (i : Nat) (f : Answer → Answer) : (modAnswer i f p).rs = p.rs := rfl
@[simp] theorem modAnswer_lm (i : Nat) (f : Answer → Answer) : (modAnswer i f p).lm = p.lm := rfl
@[simp] theorem modAnswer_lif (i : Nat) (f : Answer → Answer) : (modAnswer i f p).lif = p.lif := rfl
@[simp] theorem modAnswer_xe (i : Nat) (f : Answer → Answer) :
    (modAnswer i f p).xe = { p.xe with answers := p.xe.answers.map fun a => if a.record == i then f a else a } := rfl
@[simp] theorem modAnswer_iu (i : Nat) (f : Answer → Answer) : (modAnswer i f p).iu = p.iu := rfl
@[simp] theorem modAnswer_ts (i : Nat) (f : Answer → Answer) : (modAnswer i f p).ts = p.ts := rfl
@[simp] theorem modAnswer_du (i : Nat) (f : Answer → Answer) : (modAnswer i f p).du = p.du := rfl
@[simp] theorem modAnswer_yc (i : Nat) (f : Answer → Answer) : (modAnswer i f p).yc = p.yc := rfl
@[simp] theorem modAnswer_fp (i : Nat) (f : Answer → Answer) : (modAnswer i f p).fp = p.fp := rfl

/-! ### `freeAnswer` -/

@[simp] theorem freeAnswer_settings (i : Nat) : (freeAnswer i p).settings = p.settings := rfl
@[simp] theorem freeAnswer_identity (i : Nat) : (freeAnswer i p).identity = p.identity := rfl
@[simp] theorem freeAnswer_rs (i : Nat) : (freeAnswer i p).rs = p.rs := rfl
@[simp] theorem freeAnswer_lm (i : Nat) : (freeAnswer i p).lm = p.lm := rfl
@[simp] theorem freeAnswer_lif (i : Nat) : (freeAnswer i p).lif = p.lif := rfl
@[simp] theorem freeAnswer_iu (i : Nat) : (freeAnswer i p).iu = p.iu := rfl
@[simp] theorem freeAnswer_ts (i : Nat) : (freeAnswer i p).ts = p.ts := rfl
@[simp] theorem freeAnswer_du (i : Nat) : (freeAnswer i p).du = p.du := rfl
@[simp] theorem freeAnswer_yc (i : Nat) : (freeAnswer i p).yc = p.yc := rfl
@[simp] theorem freeAnswer_fp (i : Nat) : (freeAnswer i p).fp = p.fp := rfl

/-! ### `exchangesGone` -/

@[simp] theorem exchangesGone_settings (i : Nat) : (exchangesGone i p).settings = p.settings := rfl
@[simp] theorem exchangesGone_identity (i : Nat) : (exchangesGone i p).identity = p.identity := rfl
@[simp] theorem exchangesGone_rs (i : Nat) : (exchangesGone i p).rs = p.rs := rfl
@[simp] theorem exchangesGone_lm (i : Nat) : (exchangesGone i p).lm = p.lm := rfl
@[simp] theorem exchangesGone_lif (i : Nat) : (exchangesGone i p).lif = p.lif := rfl
@[simp] theorem exchangesGone_iu (i : Nat) : (exchangesGone i p).iu = p.iu := rfl
@[simp] theorem exchangesGone_ts (i : Nat) : (exchangesGone i p).ts = p.ts := rfl
@[simp] theorem exchangesGone_du (i : Nat) : (exchangesGone i p).du = p.du := rfl
@[simp] theorem exchangesGone_yc (i : Nat) : (exchangesGone i p).yc = p.yc := rfl
@[simp] theorem exchangesGone_fp (i : Nat) : (exchangesGone i p).fp = p.fp := rfl

/-! ### `unready` -/

@[simp] theorem unready_settings (k : FrameKey) : (unready k p).settings = p.settings := rfl
@[simp] theorem unready_identity (k : FrameKey) : (unready k p).identity = p.identity := rfl
@[simp] theorem unready_rs (k : FrameKey) : (unready k p).rs = p.rs := rfl
@[simp] theorem unready_lm (k : FrameKey) : (unready k p).lm = p.lm := rfl
@[simp] theorem unready_lif (k : FrameKey) : (unready k p).lif = p.lif := rfl
@[simp] theorem unready_xe (k : FrameKey) : (unready k p).xe = { p.xe with ready := p.xe.ready.filter (· != k) } := rfl
@[simp] theorem unready_iu (k : FrameKey) : (unready k p).iu = p.iu := rfl
@[simp] theorem unready_ts (k : FrameKey) : (unready k p).ts = p.ts := rfl
@[simp] theorem unready_du (k : FrameKey) : (unready k p).du = p.du := rfl
@[simp] theorem unready_yc (k : FrameKey) : (unready k p).yc = p.yc := rfl
@[simp] theorem unready_fp (k : FrameKey) : (unready k p).fp = p.fp := rfl

/-! ### `startSpacing` -/

@[simp] theorem startSpacing_settings : (startSpacing p).settings = p.settings := rfl
@[simp] theorem startSpacing_identity : (startSpacing p).identity = p.identity := rfl
@[simp] theorem startSpacing_rs : (startSpacing p).rs = p.rs := rfl
@[simp] theorem startSpacing_lm : (startSpacing p).lm = p.lm := rfl
@[simp] theorem startSpacing_lif : (startSpacing p).lif = p.lif := rfl
@[simp] theorem startSpacing_xe : (startSpacing p).xe = { p.xe with spacing := p.spacingWait } := rfl
@[simp] theorem startSpacing_iu : (startSpacing p).iu = p.iu := rfl
@[simp] theorem startSpacing_ts : (startSpacing p).ts = p.ts := rfl
@[simp] theorem startSpacing_du : (startSpacing p).du = p.du := rfl
@[simp] theorem startSpacing_yc : (startSpacing p).yc = p.yc := rfl
@[simp] theorem startSpacing_fp : (startSpacing p).fp = p.fp := rfl

/-! ### `releaseReservation` -/

@[simp] theorem releaseReservation_settings (caller callId : Nat) : (releaseReservation caller callId p).settings = p.settings := rfl
@[simp] theorem releaseReservation_identity (caller callId : Nat) : (releaseReservation caller callId p).identity = p.identity := rfl
@[simp] theorem releaseReservation_rs (caller callId : Nat) : (releaseReservation caller callId p).rs = p.rs := rfl
@[simp] theorem releaseReservation_lm (caller callId : Nat) : (releaseReservation caller callId p).lm = p.lm := rfl
@[simp] theorem releaseReservation_lif (caller callId : Nat) : (releaseReservation caller callId p).lif = p.lif := rfl
@[simp] theorem releaseReservation_xe (caller callId : Nat) :
    (releaseReservation caller callId p).xe = { p.xe with reservations := p.xe.reservations.filter fun r => !r.is caller callId } := rfl
@[simp] theorem releaseReservation_iu (caller callId : Nat) : (releaseReservation caller callId p).iu = p.iu := rfl
@[simp] theorem releaseReservation_ts (caller callId : Nat) : (releaseReservation caller callId p).ts = p.ts := rfl
@[simp] theorem releaseReservation_du (caller callId : Nat) : (releaseReservation caller callId p).du = p.du := rfl
@[simp] theorem releaseReservation_yc (caller callId : Nat) : (releaseReservation caller callId p).yc = p.yc := rfl
@[simp] theorem releaseReservation_fp (caller callId : Nat) : (releaseReservation caller callId p).fp = p.fp := rfl

/-! ### `releaseOffering` -/

@[simp] theorem releaseOffering_settings : (releaseOffering p).settings = p.settings := rfl
@[simp] theorem releaseOffering_identity : (releaseOffering p).identity = p.identity := rfl
@[simp] theorem releaseOffering_rs : (releaseOffering p).rs = p.rs := rfl
@[simp] theorem releaseOffering_lm : (releaseOffering p).lm = p.lm := rfl
@[simp] theorem releaseOffering_lif : (releaseOffering p).lif = p.lif := rfl
@[simp] theorem releaseOffering_xe :
    (releaseOffering p).xe = { p.xe with reservations := p.xe.reservations.filter (·.held) } := rfl
@[simp] theorem releaseOffering_iu : (releaseOffering p).iu = p.iu := rfl
@[simp] theorem releaseOffering_ts : (releaseOffering p).ts = p.ts := rfl
@[simp] theorem releaseOffering_du : (releaseOffering p).du = p.du := rfl
@[simp] theorem releaseOffering_yc : (releaseOffering p).yc = p.yc := rfl
@[simp] theorem releaseOffering_fp : (releaseOffering p).fp = p.fp := rfl

/-! ### `dropQuerier` -/

@[simp] theorem dropQuerier_settings : (dropQuerier p).settings = p.settings := rfl
@[simp] theorem dropQuerier_identity : (dropQuerier p).identity = p.identity := rfl
@[simp] theorem dropQuerier_rs : (dropQuerier p).rs = p.rs := rfl
@[simp] theorem dropQuerier_lm : (dropQuerier p).lm = p.lm := rfl
@[simp] theorem dropQuerier_lif : (dropQuerier p).lif = p.lif := rfl
@[simp] theorem dropQuerier_xe : (dropQuerier p).xe = { p.xe with statusList := p.xe.statusList.drop 1 } := rfl
@[simp] theorem dropQuerier_iu : (dropQuerier p).iu = p.iu := rfl
@[simp] theorem dropQuerier_ts : (dropQuerier p).ts = p.ts := rfl
@[simp] theorem dropQuerier_du : (dropQuerier p).du = p.du := rfl
@[simp] theorem dropQuerier_yc : (dropQuerier p).yc = p.yc := rfl
@[simp] theorem dropQuerier_fp : (dropQuerier p).fp = p.fp := rfl

/-! ### `refreshReady` -/

@[simp] theorem refreshReady_settings : (refreshReady p).settings = p.settings := rfl
@[simp] theorem refreshReady_identity : (refreshReady p).identity = p.identity := rfl
@[simp] theorem refreshReady_rs : (refreshReady p).rs = p.rs := rfl
@[simp] theorem refreshReady_lm : (refreshReady p).lm = p.lm := rfl
@[simp] theorem refreshReady_lif : (refreshReady p).lif = p.lif := rfl
@[simp] theorem refreshReady_iu : (refreshReady p).iu = p.iu := rfl
@[simp] theorem refreshReady_ts : (refreshReady p).ts = p.ts := rfl
@[simp] theorem refreshReady_du : (refreshReady p).du = p.du := rfl
@[simp] theorem refreshReady_yc : (refreshReady p).yc = p.yc := rfl
@[simp] theorem refreshReady_fp : (refreshReady p).fp = p.fp := rfl

/-! ### `modAward` -/

@[simp] theorem modAward_settings (slot : Nat) (f : Award → Award) : (modAward slot f p).settings = p.settings := rfl
@[simp] theorem modAward_identity (slot : Nat) (f : Award → Award) : (modAward slot f p).identity = p.identity := rfl
@[simp] theorem modAward_rs (slot : Nat) (f : Award → Award) : (modAward slot f p).rs = p.rs := rfl
@[simp] theorem modAward_lm (slot : Nat) (f : Award → Award) : (modAward slot f p).lm = p.lm := rfl
@[simp] theorem modAward_lif (slot : Nat) (f : Award → Award) : (modAward slot f p).lif = p.lif := rfl
@[simp] theorem modAward_xe (slot : Nat) (f : Award → Award) : (modAward slot f p).xe = p.xe := rfl
@[simp] theorem modAward_iu (slot : Nat) (f : Award → Award) : (modAward slot f p).iu = p.iu := rfl
@[simp] theorem modAward_ts (slot : Nat) (f : Award → Award) : (modAward slot f p).ts = p.ts := rfl
@[simp] theorem modAward_du (slot : Nat) (f : Award → Award) :
    (modAward slot f p).du = { p.du with awards := p.du.awards.map fun a => if a.slot == slot then f a else a } := rfl
@[simp] theorem modAward_yc (slot : Nat) (f : Award → Award) : (modAward slot f p).yc = p.yc := rfl
@[simp] theorem modAward_fp (slot : Nat) (f : Award → Award) : (modAward slot f p).fp = p.fp := rfl

/-! ### `dropAward` -/

@[simp] theorem dropAward_settings (slot : Nat) : (dropAward slot p).settings = p.settings := rfl
@[simp] theorem dropAward_identity (slot : Nat) : (dropAward slot p).identity = p.identity := rfl
@[simp] theorem dropAward_rs (slot : Nat) : (dropAward slot p).rs = p.rs := rfl
@[simp] theorem dropAward_lm (slot : Nat) : (dropAward slot p).lm = p.lm := rfl
@[simp] theorem dropAward_lif (slot : Nat) : (dropAward slot p).lif = p.lif := rfl
@[simp] theorem dropAward_xe (slot : Nat) : (dropAward slot p).xe = p.xe := rfl
@[simp] theorem dropAward_iu (slot : Nat) : (dropAward slot p).iu = p.iu := rfl
@[simp] theorem dropAward_ts (slot : Nat) : (dropAward slot p).ts = p.ts := rfl
@[simp] theorem dropAward_du (slot : Nat) :
    (dropAward slot p).du = { p.du with awards := p.du.awards.filter fun a => a.slot != slot } := rfl
@[simp] theorem dropAward_yc (slot : Nat) : (dropAward slot p).yc = p.yc := rfl
@[simp] theorem dropAward_fp (slot : Nat) : (dropAward slot p).fp = p.fp := rfl

/-! ### `modDig` -/

@[simp] theorem modDig_settings (lane : Nat) (f : Dig → Dig) : (modDig lane f p).settings = p.settings := rfl
@[simp] theorem modDig_identity (lane : Nat) (f : Dig → Dig) : (modDig lane f p).identity = p.identity := rfl
@[simp] theorem modDig_rs (lane : Nat) (f : Dig → Dig) : (modDig lane f p).rs = p.rs := rfl
@[simp] theorem modDig_lm (lane : Nat) (f : Dig → Dig) : (modDig lane f p).lm = p.lm := rfl
@[simp] theorem modDig_lif (lane : Nat) (f : Dig → Dig) : (modDig lane f p).lif = p.lif := rfl
@[simp] theorem modDig_xe (lane : Nat) (f : Dig → Dig) : (modDig lane f p).xe = p.xe := rfl
@[simp] theorem modDig_iu (lane : Nat) (f : Dig → Dig) : (modDig lane f p).iu = p.iu := rfl
@[simp] theorem modDig_ts (lane : Nat) (f : Dig → Dig) : (modDig lane f p).ts = p.ts := rfl
@[simp] theorem modDig_du (lane : Nat) (f : Dig → Dig) :
    (modDig lane f p).du = { p.du with digs := p.du.digs.map fun d => if d.lane == lane then f d else d } := rfl
@[simp] theorem modDig_yc (lane : Nat) (f : Dig → Dig) : (modDig lane f p).yc = p.yc := rfl
@[simp] theorem modDig_fp (lane : Nat) (f : Dig → Dig) : (modDig lane f p).fp = p.fp := rfl

/-! ### `startLimits` -/

@[simp] theorem startLimits_settings : (startLimits p).settings = p.settings := rfl
@[simp] theorem startLimits_identity : (startLimits p).identity = p.identity := rfl
@[simp] theorem startLimits_rs : (startLimits p).rs = p.rs := rfl
@[simp] theorem startLimits_lm : (startLimits p).lm = p.lm := rfl
@[simp] theorem startLimits_lif : (startLimits p).lif = p.lif := rfl
@[simp] theorem startLimits_xe : (startLimits p).xe = p.xe := rfl
@[simp] theorem startLimits_iu : (startLimits p).iu = p.iu := rfl
@[simp] theorem startLimits_ts : (startLimits p).ts = p.ts := rfl
@[simp] theorem startLimits_du : (startLimits p).du = { p.du with awards := p.du.awards.map p.startLimit } := rfl
@[simp] theorem startLimits_yc : (startLimits p).yc = p.yc := rfl
@[simp] theorem startLimits_fp : (startLimits p).fp = p.fp := rfl

/-! ### `removeRequest` -/

@[simp] theorem removeRequest_settings (i : Nat) : (removeRequest i p).settings = p.settings := rfl
@[simp] theorem removeRequest_identity (i : Nat) : (removeRequest i p).identity = p.identity := rfl
@[simp] theorem removeRequest_rs (i : Nat) : (removeRequest i p).rs = p.rs := rfl
@[simp] theorem removeRequest_lm (i : Nat) : (removeRequest i p).lm = p.lm := rfl
@[simp] theorem removeRequest_lif (i : Nat) : (removeRequest i p).lif = p.lif := rfl
@[simp] theorem removeRequest_xe (i : Nat) : (removeRequest i p).xe = p.xe := rfl
@[simp] theorem removeRequest_iu (i : Nat) : (removeRequest i p).iu = p.iu := rfl
@[simp] theorem removeRequest_du (i : Nat) : (removeRequest i p).du = p.du := rfl
@[simp] theorem removeRequest_yc (i : Nat) : (removeRequest i p).yc = p.yc := rfl
@[simp] theorem removeRequest_fp (i : Nat) : (removeRequest i p).fp = p.fp := rfl

/-! ### `joinTail` -/

@[simp] theorem joinTail_settings (level i : Nat) : (joinTail level i p).settings = p.settings := rfl
@[simp] theorem joinTail_identity (level i : Nat) : (joinTail level i p).identity = p.identity := rfl
@[simp] theorem joinTail_rs (level i : Nat) : (joinTail level i p).rs = p.rs := rfl
@[simp] theorem joinTail_lm (level i : Nat) : (joinTail level i p).lm = p.lm := rfl
@[simp] theorem joinTail_lif (level i : Nat) : (joinTail level i p).lif = p.lif := rfl
@[simp] theorem joinTail_xe (level i : Nat) : (joinTail level i p).xe = p.xe := rfl
@[simp] theorem joinTail_iu (level i : Nat) : (joinTail level i p).iu = p.iu := rfl
@[simp] theorem joinTail_ts (level i : Nat) :
    (joinTail level i p).ts = { p.ts with levels := p.ts.levels.modify level fun l => l ++ [i] } := rfl
@[simp] theorem joinTail_du (level i : Nat) : (joinTail level i p).du = p.du := rfl
@[simp] theorem joinTail_yc (level i : Nat) : (joinTail level i p).yc = p.yc := rfl
@[simp] theorem joinTail_fp (level i : Nat) : (joinTail level i p).fp = p.fp := rfl

/-! ### `joinFront` -/

@[simp] theorem joinFront_settings (level i : Nat) : (joinFront level i p).settings = p.settings := rfl
@[simp] theorem joinFront_identity (level i : Nat) : (joinFront level i p).identity = p.identity := rfl
@[simp] theorem joinFront_rs (level i : Nat) : (joinFront level i p).rs = p.rs := rfl
@[simp] theorem joinFront_lm (level i : Nat) : (joinFront level i p).lm = p.lm := rfl
@[simp] theorem joinFront_lif (level i : Nat) : (joinFront level i p).lif = p.lif := rfl
@[simp] theorem joinFront_xe (level i : Nat) : (joinFront level i p).xe = p.xe := rfl
@[simp] theorem joinFront_iu (level i : Nat) : (joinFront level i p).iu = p.iu := rfl
@[simp] theorem joinFront_ts (level i : Nat) :
    (joinFront level i p).ts = { p.ts with levels := p.ts.levels.modify level fun l => i :: l } := rfl
@[simp] theorem joinFront_du (level i : Nat) : (joinFront level i p).du = p.du := rfl
@[simp] theorem joinFront_yc (level i : Nat) : (joinFront level i p).yc = p.yc := rfl
@[simp] theorem joinFront_fp (level i : Nat) : (joinFront level i p).fp = p.fp := rfl

/-! ### `joinRetry` -/

@[simp] theorem joinRetry_settings (level i : Nat) : (joinRetry level i p).settings = p.settings := rfl
@[simp] theorem joinRetry_identity (level i : Nat) : (joinRetry level i p).identity = p.identity := rfl
@[simp] theorem joinRetry_rs (level i : Nat) : (joinRetry level i p).rs = p.rs := rfl
@[simp] theorem joinRetry_lm (level i : Nat) : (joinRetry level i p).lm = p.lm := rfl
@[simp] theorem joinRetry_lif (level i : Nat) : (joinRetry level i p).lif = p.lif := rfl
@[simp] theorem joinRetry_xe (level i : Nat) : (joinRetry level i p).xe = p.xe := rfl
@[simp] theorem joinRetry_iu (level i : Nat) : (joinRetry level i p).iu = p.iu := rfl
@[simp] theorem joinRetry_ts (level i : Nat) :
    (joinRetry level i p).ts = { p.ts with retryOrder := p.ts.retryOrder ++ [(i, level)] } := rfl
@[simp] theorem joinRetry_du (level i : Nat) : (joinRetry level i p).du = p.du := rfl
@[simp] theorem joinRetry_yc (level i : Nat) : (joinRetry level i p).yc = p.yc := rfl
@[simp] theorem joinRetry_fp (level i : Nat) : (joinRetry level i p).fp = p.fp := rfl

/-! ### `moveAward` -/

@[simp] theorem moveAward_settings (i n : Nat) : (moveAward i n p).settings = p.settings := rfl
@[simp] theorem moveAward_identity (i n : Nat) : (moveAward i n p).identity = p.identity := rfl
@[simp] theorem moveAward_rs (i n : Nat) : (moveAward i n p).rs = p.rs := rfl
@[simp] theorem moveAward_lm (i n : Nat) : (moveAward i n p).lm = p.lm := rfl
@[simp] theorem moveAward_lif (i n : Nat) : (moveAward i n p).lif = p.lif := rfl
@[simp] theorem moveAward_xe (i n : Nat) : (moveAward i n p).xe = p.xe := rfl
@[simp] theorem moveAward_iu (i n : Nat) : (moveAward i n p).iu = p.iu := rfl
@[simp] theorem moveAward_ts (i n : Nat) : (moveAward i n p).ts = p.ts := rfl
@[simp] theorem moveAward_yc (i n : Nat) : (moveAward i n p).yc = p.yc := rfl
@[simp] theorem moveAward_fp (i n : Nat) : (moveAward i n p).fp = p.fp := rfl

/-! ### `addReply` -/

@[simp] theorem addReply_settings (kind : Nat) (r : Option Reason) (pl : Payload) : (addReply kind r pl p).settings = p.settings := rfl
@[simp] theorem addReply_identity (kind : Nat) (r : Option Reason) (pl : Payload) : (addReply kind r pl p).identity = p.identity := rfl
@[simp] theorem addReply_rs (kind : Nat) (r : Option Reason) (pl : Payload) : (addReply kind r pl p).rs = p.rs := rfl
@[simp] theorem addReply_lm (kind : Nat) (r : Option Reason) (pl : Payload) : (addReply kind r pl p).lm = p.lm := rfl
@[simp] theorem addReply_lif (kind : Nat) (r : Option Reason) (pl : Payload) : (addReply kind r pl p).lif = p.lif := rfl
@[simp] theorem addReply_xe (kind : Nat) (r : Option Reason) (pl : Payload) : (addReply kind r pl p).xe = p.xe := rfl
@[simp] theorem addReply_iu (kind : Nat) (r : Option Reason) (pl : Payload) : (addReply kind r pl p).iu = p.iu := rfl
@[simp] theorem addReply_ts (kind : Nat) (r : Option Reason) (pl : Payload) : (addReply kind r pl p).ts = p.ts := rfl
@[simp] theorem addReply_du (kind : Nat) (r : Option Reason) (pl : Payload) : (addReply kind r pl p).du = p.du := rfl
@[simp] theorem addReply_yc (kind : Nat) (r : Option Reason) (pl : Payload) : (addReply kind r pl p).yc = p.yc := rfl
@[simp] theorem addReply_fp (kind : Nat) (r : Option Reason) (pl : Payload) :
    (addReply kind r pl p).fp = { p.fp with replies := p.fp.replies ++ [{ kind := kind, refused := r, payload := pl }] } := rfl

/-! ### `sendMessage` -/

@[simp] theorem sendMessage_settings (m : SentMessage) : (sendMessage m p).settings = p.settings := rfl
@[simp] theorem sendMessage_identity (m : SentMessage) : (sendMessage m p).identity = p.identity := rfl
@[simp] theorem sendMessage_rs (m : SentMessage) : (sendMessage m p).rs = p.rs := rfl
@[simp] theorem sendMessage_lm (m : SentMessage) : (sendMessage m p).lm = p.lm := rfl
@[simp] theorem sendMessage_lif (m : SentMessage) : (sendMessage m p).lif = p.lif := rfl
@[simp] theorem sendMessage_xe (m : SentMessage) : (sendMessage m p).xe = p.xe := rfl
@[simp] theorem sendMessage_iu (m : SentMessage) : (sendMessage m p).iu = p.iu := rfl
@[simp] theorem sendMessage_ts (m : SentMessage) : (sendMessage m p).ts = p.ts := rfl
@[simp] theorem sendMessage_du (m : SentMessage) : (sendMessage m p).du = p.du := rfl
@[simp] theorem sendMessage_yc (m : SentMessage) : (sendMessage m p).yc = p.yc := rfl

/-! ### `ageRecords` -/

@[simp] theorem ageRecords_settings : (ageRecords p).settings = p.settings := rfl
@[simp] theorem ageRecords_identity : (ageRecords p).identity = p.identity := rfl
@[simp] theorem ageRecords_lm : (ageRecords p).lm = p.lm := rfl
@[simp] theorem ageRecords_lif : (ageRecords p).lif = p.lif := rfl
@[simp] theorem ageRecords_xe : (ageRecords p).xe = p.xe := rfl
@[simp] theorem ageRecords_iu : (ageRecords p).iu = p.iu := rfl
@[simp] theorem ageRecords_ts : (ageRecords p).ts = p.ts := rfl
@[simp] theorem ageRecords_du : (ageRecords p).du = p.du := rfl
@[simp] theorem ageRecords_yc : (ageRecords p).yc = p.yc := rfl
@[simp] theorem ageRecords_fp : (ageRecords p).fp = p.fp := rfl

/-! ### `passBoundary` -/

@[simp] theorem passBoundary_settings : (passBoundary p).settings = p.settings := rfl
@[simp] theorem passBoundary_identity : (passBoundary p).identity = p.identity := rfl
@[simp] theorem passBoundary_rs : (passBoundary p).rs = p.rs := rfl
@[simp] theorem passBoundary_lm : (passBoundary p).lm = p.lm := rfl
@[simp] theorem passBoundary_lif : (passBoundary p).lif = p.lif := rfl
@[simp] theorem passBoundary_xe : (passBoundary p).xe = p.xe := rfl
@[simp] theorem passBoundary_iu : (passBoundary p).iu = p.iu := rfl
@[simp] theorem passBoundary_ts : (passBoundary p).ts = p.ts := rfl
@[simp] theorem passBoundary_du : (passBoundary p).du = p.du := rfl
@[simp] theorem passBoundary_fp : (passBoundary p).fp = p.fp := rfl

/-! ### `makeOffer` -/

@[simp] theorem makeOffer_settings (c : WindowCall) (o : Offer) : (makeOffer c o p).settings = p.settings := rfl
@[simp] theorem makeOffer_identity (c : WindowCall) (o : Offer) : (makeOffer c o p).identity = p.identity := rfl
@[simp] theorem makeOffer_rs (c : WindowCall) (o : Offer) : (makeOffer c o p).rs = p.rs := rfl
@[simp] theorem makeOffer_lm (c : WindowCall) (o : Offer) : (makeOffer c o p).lm = p.lm := rfl
@[simp] theorem makeOffer_iu (c : WindowCall) (o : Offer) : (makeOffer c o p).iu = p.iu := rfl
@[simp] theorem makeOffer_ts (c : WindowCall) (o : Offer) : (makeOffer c o p).ts = p.ts := rfl
@[simp] theorem makeOffer_du (c : WindowCall) (o : Offer) : (makeOffer c o p).du = p.du := rfl
@[simp] theorem makeOffer_yc (c : WindowCall) (o : Offer) : (makeOffer c o p).yc = p.yc := rfl
@[simp] theorem makeOffer_fp (c : WindowCall) (o : Offer) : (makeOffer c o p).fp = p.fp := rfl

/-! ### `closePoint` -/

@[simp] theorem closePoint_settings : (closePoint p).settings = p.settings := rfl
@[simp] theorem closePoint_identity : (closePoint p).identity = p.identity := rfl
@[simp] theorem closePoint_rs : (closePoint p).rs = p.rs := rfl
@[simp] theorem closePoint_lm : (closePoint p).lm = p.lm := rfl
@[simp] theorem closePoint_lif : (closePoint p).lif = p.lif := rfl
@[simp] theorem closePoint_xe : (closePoint p).xe = p.xe := rfl
@[simp] theorem closePoint_iu : (closePoint p).iu = p.iu := rfl
@[simp] theorem closePoint_ts : (closePoint p).ts = { p.ts with opened := false } := rfl
@[simp] theorem closePoint_du : (closePoint p).du = p.du := rfl
@[simp] theorem closePoint_yc : (closePoint p).yc = p.yc := rfl
@[simp] theorem closePoint_fp : (closePoint p).fp = p.fp := rfl

end Sys2Proof.Machine
end

