-- ==== Sys2Proof/Laws/Settled.lean ====
section
/-! SUPPORT. What the review that ends a command can do, said once: `settle_settled` states that `settle` changes nothing
outside `SettledFrom`. The lemmas before it say the same of each operation that the review uses. -/

namespace Sys2Proof.Machine

theorem BothOrNone.refl {α : Type} {rel : α → α → Prop} (h : ∀ a, rel a a) : ∀ o, BothOrNone rel o o
  | none => .absent
  | some a => .both (h a)

theorem BothOrNone.trans {α : Type} {rel : α → α → Prop} (h : ∀ a b c, rel a b → rel b c → rel a c) {o p q : Option α} :
    BothOrNone rel o p → BothOrNone rel p q → BothOrNone rel o q
  | .absent, .absent => .absent
  | .both k, .both l => .both (h _ _ _ k l)

theorem Rec.SettledTo.refl (r : Rec) : r.SettledTo r := ⟨rfl, .inl rfl, .inl rfl⟩

theorem Rec.SettledTo.trans (r q u : Rec) (h : r.SettledTo q) (k : q.SettledTo u) : r.SettledTo u where
  standing := k.standing.trans h.standing
  place := by
    rcases k.place with e | e
    · rw [e]; exact h.place
    · exact .inr e
  award := by
    rcases k.award with e | e
    · rw [e]; exact h.award
    · exact .inr e

theorem Lane.SettledTo.refl (l : Lane) : l.SettledTo l := ⟨rfl, .inl rfl⟩

theorem Lane.SettledTo.trans (l m n : Lane) (h : l.SettledTo m) (k : m.SettledTo n) : l.SettledTo n where
  standing := k.standing.trans h.standing
  state := by
    rcases k.state with e | e
    · rw [e]; exact h.state
    · exact .inr e

namespace SettledFrom

/-- Two parts that differ in nothing that `SettledFrom` names. -/
theorem of_eq {p q : Part} (settings : q.settings = p.settings) (identity : q.identity = p.identity)
    (store : q.rs.store = p.rs.store) (lanes : q.lm = p.lm) (line : SameLine p.lif q.lif)
    (reservations : q.xe.reservations = p.xe.reservations) (questions : q.xe.questions = p.xe.questions)
    (memory : q.xe.memory = p.xe.memory) (statusList : q.xe.statusList = p.xe.statusList)
    (spacing : q.xe.spacing = p.xe.spacing) (intake : q.iu = p.iu) (turns : q.ts = p.ts) (clock : q.yc = p.yc)
    (replies : q.fp.replies = p.fp.replies) (linkErrors : q.fp.linkErrors = p.fp.linkErrors)
    (overflow : q.fp.overflow = p.fp.overflow) : SettledFrom p q where
  settings := settings
  identity := identity
  records i := by
    have : q.record i = p.record i := by simp only [Part.record, store]
    rw [this]
    exact BothOrNone.refl Rec.SettledTo.refl _
  lanes n := by
    have : q.lane n = p.lane n := by simp only [Part.lane, lanes]
    rw [this]
    exact BothOrNone.refl Lane.SettledTo.refl _
  line := line
  reservations := reservations
  questions := questions
  memory := memory
  statusList := statusList
  spacing := spacing
  intake := intake
  turns := turns
  clock := clock
  replies := replies
  linkErrors := linkErrors
  overflow := overflow

theorem refl (p : Part) : SettledFrom p p := by apply of_eq <;> rfl

theorem trans {p q r : Part} (h : SettledFrom p q) (k : SettledFrom q r) : SettledFrom p r where
  settings := k.settings.trans h.settings
  identity := k.identity.trans h.identity
  records i := (h.records i).trans Rec.SettledTo.trans (k.records i)
  lanes n := (h.lanes n).trans Lane.SettledTo.trans (k.lanes n)
  line := by
    have h := h.line
    have k := k.line
    unfold SameLine at *
    rw [k, h]
  reservations := k.reservations.trans h.reservations
  questions := k.questions.trans h.questions
  memory := k.memory.trans h.memory
  statusList := k.statusList.trans h.statusList
  spacing := k.spacing.trans h.spacing
  intake := k.intake.trans h.intake
  turns := k.turns.trans h.turns
  clock := k.clock.trans h.clock
  replies := k.replies.trans h.replies
  linkErrors := k.linkErrors.trans h.linkErrors
  overflow := k.overflow.trans h.overflow

theorem ite {c : Prop} [Decidable c] {p q r : Part} (h : SettledFrom p q) (k : SettledFrom p r) :
    SettledFrom p (if c then q else r) := by
  split <;> assumption

/-- A fold of steps that each settle settles. -/
theorem foldl {α : Type} (f : Part → α → Part) (hf : ∀ p a, SettledFrom p (f p a)) (as : List α) (p : Part) :
    SettledFrom p (as.foldl f p) := by
  induction as generalizing p with
  | nil => exact refl p
  | cons a as ih => exact (hf p a).trans (ih (f p a))

end SettledFrom

/-! ### Reports and outputs -/

theorem queueReport_settled (r : Report) (p : Part) : SettledFrom p (queueReport r p) := by
  unfold queueReport
  split <;> (apply SettledFrom.of_eq <;> rfl)

theorem enqueue_settled (o : Output) (p : Part) : SettledFrom p (enqueue o p) := by apply SettledFrom.of_eq <;> rfl

theorem dropOutput_settled (k : Nat) (p : Part) : SettledFrom p (dropOutput k p) := by apply SettledFrom.of_eq <;> rfl

theorem countDroppedOutput_settled (p : Part) : SettledFrom p (countDroppedOutput p) := by apply SettledFrom.of_eq <;> rfl

theorem produce_settled (o : Output) (p : Part) : SettledFrom p (produce o p) := by
  unfold produce
  split
  · exact enqueue_settled o p
  · split
    · exact (dropOutput_settled _ p).trans (enqueue_settled o _)
    · split
      · exact (((dropOutput_settled _ p).trans (countDroppedOutput_settled _)).trans (queueReport_settled _ _)).trans
          (enqueue_settled o _)
      · exact (countDroppedOutput_settled p).trans (queueReport_settled _ _)

/-! ### Records and lanes -/

/-- A changed record reads as changed, every other as before. -/
theorem record_modRecord (i j : Nat) (f : Rec → Rec) (p : Part) :
    (modRecord i f p).record j = if i = j then (p.record j).map f else p.record j := by
  unfold modRecord
  split
  · rename_i r hr
    simp only [Part.record, putRecord_rs, List.getElem?_set] at *
    split
    · rename_i hij
      subst hij
      have hi : i < p.rs.store.length := by
        by_contra h
        simp [List.getElem?_eq_none (Nat.le_of_not_lt h)] at hr
      have hs : p.rs.store[i] = some r := by simpa [hi] using hr
      simp [hi, hs]
    · rfl
  · rename_i hr
    split
    · rename_i hij
      subst hij
      simp [hr]
    · rfl

theorem record_putRecord (i j : Nat) (r : Option Rec) (p : Part) (h : i < p.rs.store.length) :
    (putRecord i r p).record j = if i = j then r else p.record j := by
  simp only [Part.record, putRecord_rs, List.getElem?_set, h, if_true]
  split <;> simp

/-- A changed lane reads as changed, every other as before. -/
theorem lane_modLane (n m : Nat) (f : Lane → Lane) (p : Part) :
    (modLane n f p).lane m = if n = m then (p.lane m).map f else p.lane m := by
  unfold modLane
  split
  · rename_i hn
    subst hn
    by_cases hm : 0 = m
    · subst hm; simp [Part.lane]
    · simp [hm]
  · rename_i hn
    by_cases hm : m = 0
    · simp [Part.lane, hm, hn]
    · simp only [Part.lane, hm, if_false, List.getElem?_modify]
      by_cases e : n = m
      · subst e; simp
      · have hk : n - 1 ≠ m - 1 := by omega
        simp [e, hk]

/-- `modRecord` changes the record store alone. -/
theorem modRecord_frame (i : Nat) (f : Rec → Rec) (p : Part) :
    modRecord i f p = { p with rs := { p.rs with store := (modRecord i f p).rs.store } } := by
  unfold modRecord
  split <;> rfl

/-- `modLane` changes the Lane Map alone. -/
theorem modLane_frame (n : Nat) (f : Lane → Lane) (p : Part) : modLane n f p = { p with lm := (modLane n f p).lm } := by
  unfold modLane
  split <;> rfl

/-- A change of a record within `Rec.SettledTo` settles. -/
theorem modRecord_settled (i : Nat) (f : Rec → Rec) (p : Part)
    (hf : ∀ r : Rec, r.SettledTo (f r) := by intro _; exact ⟨rfl, .inl rfl, .inl rfl⟩) : SettledFrom p (modRecord i f p) := by
  have hr : ∀ j, BothOrNone Rec.SettledTo (p.record j) ((modRecord i f p).record j) := by
    intro j
    rw [record_modRecord]
    split
    · cases p.record j with
      | none => exact .absent
      | some r => exact .both (hf r)
    · exact BothOrNone.refl Rec.SettledTo.refl _
  rw [modRecord_frame] at hr ⊢
  exact { SettledFrom.refl p with records := hr }

/-- A change of a lane within `Lane.SettledTo` settles. -/
theorem modLane_settled (n : Nat) (f : Lane → Lane) (p : Part)
    (hf : ∀ l : Lane, l.SettledTo (f l) := by intro _; exact ⟨rfl, .inl rfl⟩) : SettledFrom p (modLane n f p) := by
  have hl : ∀ m, BothOrNone Lane.SettledTo (p.lane m) ((modLane n f p).lane m) := by
    intro m
    rw [lane_modLane]
    split
    · cases p.lane m with
      | none => exact .absent
      | some l => exact .both (hf l)
    · exact BothOrNone.refl Lane.SettledTo.refl _
  rw [modLane_frame] at hl ⊢
  exact { SettledFrom.refl p with lanes := hl }

/-! ### Exchanges and the calling-wanted order -/

theorem modExchange_settled (id : Nat) (f : Exchange → Exchange) (p : Part) : SettledFrom p (modExchange id f p) := by
  apply SettledFrom.of_eq <;> rfl

theorem dropWanted_settled (i : Nat) (p : Part) : SettledFrom p (dropWanted i p) :=
  SettledFrom.trans (q := { p with rs := { p.rs with wantedOrder := p.rs.wantedOrder.filter (· != i) } })
    (by apply SettledFrom.of_eq <;> rfl) (modRecord_settled i _ _)

theorem joinWanted_settled (i : Nat) (w : WantedCall) (p : Part) : SettledFrom p (joinWanted i w p) := by
  unfold joinWanted
  refine SettledFrom.trans ?_ (modRecord_settled i _ _)
  split
  · exact SettledFrom.refl p
  · apply SettledFrom.of_eq <;> rfl

theorem openExchange_settled (id i : Nat) (w : WantedCall) (p : Part) : SettledFrom p (openExchange id i w p) := by
  unfold openExchange
  exact SettledFrom.trans (by apply SettledFrom.of_eq <;> rfl) (modRecord_settled i _ _)

theorem takeWanted_settled (p : Part) : SettledFrom p (takeWanted p) := by
  unfold takeWanted
  split
  · split
    · exact (dropWanted_settled _ p).trans (openExchange_settled ..)
    · exact dropWanted_settled _ p
  · exact SettledFrom.refl p

theorem clearShunt_settled (i : Nat) (p : Part) : SettledFrom p (clearShunt i p) := modRecord_settled i _ p

theorem unready_settled (k : FrameKey) (p : Part) : SettledFrom p (unready k p) := by apply SettledFrom.of_eq <;> rfl

theorem freeExchange_settled (e : Exchange) (p : Part) : SettledFrom p (freeExchange e p) := by
  unfold freeExchange
  refine SettledFrom.trans ?_ (takeWanted_settled _)
  refine SettledFrom.trans (q := { p with xe := { p.xe with exchanges := p.xe.exchanges.filter fun x => x.id != e.id } })
    (by apply SettledFrom.of_eq <;> rfl) ?_
  refine SettledFrom.trans ((unready_settled (.call e.id) _).trans (unready_settled (.transfer e.id) _)) ?_
  dsimp only
  split
  · exact clearShunt_settled _ _
  · exact SettledFrom.refl _

theorem closeExchange_settled (i : Nat) (p : Part) : SettledFrom p (closeExchange i p) := by
  unfold closeExchange
  split
  · exact SettledFrom.refl p
  · split
    · exact modExchange_settled ..
    · exact freeExchange_settled ..

theorem replaceKind_settled (e : Exchange) (kind : CallKind) (p : Part) : SettledFrom p (replaceKind e kind p) := by
  unfold replaceKind
  exact SettledFrom.ite (SettledFrom.refl p) ((modExchange_settled ..).trans (unready_settled ..))

theorem requestExchange_settled (i : Nat) (w : WantedCall) (p : Part) : SettledFrom p (requestExchange i w p) := by
  unfold requestExchange
  split
  · split
    · exact (replaceKind_settled ..).trans (modRecord_settled i _ _)
    · exact SettledFrom.refl p
  · split
    · exact openExchange_settled ..
    · exact joinWanted_settled ..

/-! ### Notices, awards and digs -/

theorem handNotice_settled (k : NoticeKind) (fleet slot a : Nat) (p : Part) : SettledFrom p (handNotice k fleet slot a p) := by
  unfold handNotice
  dsimp only
  generalize hq : queueReport _ p = q
  have h : SettledFrom p q := hq ▸ queueReport_settled _ p
  split
  · exact h.trans (by apply SettledFrom.of_eq <;> rfl)
  · exact h.trans (queueReport_settled ..)

theorem dropAward_settled (slot : Nat) (p : Part) : SettledFrom p (dropAward slot p) := by apply SettledFrom.of_eq <;> rfl

theorem modAward_settled (slot : Nat) (f : Award → Award) (p : Part) : SettledFrom p (modAward slot f p) := by
  apply SettledFrom.of_eq <;> rfl

theorem modDig_settled (lane : Nat) (f : Dig → Dig) (p : Part) : SettledFrom p (modDig lane f p) := by
  apply SettledFrom.of_eq <;> rfl

theorem closeCalls_settled (i : Nat) (p : Part) : SettledFrom p (closeCalls i p) :=
  (dropWanted_settled i p).trans (closeExchange_settled i _)

theorem clearShuntUnlessClosing_settled (i : Nat) (p : Part) : SettledFrom p (clearShuntUnlessClosing i p) := by
  unfold clearShuntUnlessClosing
  split
  · exact SettledFrom.refl p
  · exact clearShunt_settled i p

theorem clearShuntAtEnd_settled (i : Nat) (p : Part) : SettledFrom p (clearShuntAtEnd i p) := by
  unfold clearShuntAtEnd
  split
  · exact clearShunt_settled i p
  · exact clearShuntUnlessClosing_settled i p

theorem endDig_settled (d : Dig) (cause : DigCause) (p : Part) : SettledFrom p (endDig d cause p) := by
  unfold endDig
  refine SettledFrom.trans ?_ (queueReport_settled _ _)
  refine SettledFrom.trans ?_ (modAward_settled _ _ _)
  refine SettledFrom.trans ?_ (modLane_settled _ _ _ (fun _ => ⟨rfl, .inr rfl⟩))
  refine SettledFrom.trans ?_ (SettledFrom.foldl _ (fun p (b : Nat × Nat) => clearShuntAtEnd_settled b.1 p) _ _)
  refine SettledFrom.trans (q := { p with du := { p.du with digs := p.du.digs.filter fun x => x.lane != d.lane } })
    (by apply SettledFrom.of_eq <;> rfl) ?_
  dsimp only
  split
  · exact closeCalls_settled ..
  · exact SettledFrom.refl _

theorem endDigOf_settled (a : Award) (cause : DigCause) (p : Part) : SettledFrom p (endDigOf a cause p) := by
  unfold endDigOf
  split
  · split
    · exact endDig_settled ..
    · exact SettledFrom.refl p
  · exact SettledFrom.refl p

theorem Rec.settledTo_unaward (r : Rec) :
    r.SettledTo (if r.place == .awarded then { r with place := .parked } else r) := by
  cases h : r.place <;> simp only [beq_iff_eq, reduceCtorEq, if_false, if_true] <;>
    first | exact Rec.SettledTo.refl r | exact ⟨by simp [Rec.standing, h], .inr rfl, .inl rfl⟩

theorem withdraw_settled (a : Award) (notice : Option NoticeKind) (cause : DigCause) (p : Part) :
    SettledFrom p (withdraw a notice cause p) := by
  unfold withdraw
  have h := (((dropAward_settled a.slot p).trans (modRecord_settled a.record (fun r => { r with award := none }) _
    (fun _ => ⟨rfl, .inl rfl, .inr rfl⟩))).trans (endDigOf_settled a cause _)).trans
      (modRecord_settled a.record (fun r => if r.place == .awarded then { r with place := .parked } else r)
        _ Rec.settledTo_unaward)
  dsimp only
  split
  · exact h.trans (handNotice_settled ..)
  · exact h

theorem giveUp_settled (d : Dig) (cause : DigCause) (p : Part) : SettledFrom p (giveUp d cause p) := by
  unfold giveUp
  split
  · exact withdraw_settled ..
  · exact endDig_settled ..

theorem missAward_settled (a : Award) (p : Part) : SettledFrom p (missAward a p) :=
  (withdraw_settled a _ _ p).trans (queueReport_settled _ _)

theorem unreadExit_settled (i : Nat) (p : Part) : SettledFrom p (unreadExit i p) := by
  unfold unreadExit
  split
  · exact withdraw_settled ..
  · exact SettledFrom.refl p

theorem loseAward_settled (i : Nat) (p : Part) : SettledFrom p (loseAward i p) := by
  unfold loseAward
  split
  · exact withdraw_settled ..
  · exact SettledFrom.refl p

theorem callBlocker_settled (lane : Nat) (b : Nat × Nat) (p : Part) : SettledFrom p (callBlocker lane b p) := by
  unfold callBlocker
  dsimp only
  refine SettledFrom.trans ?_ (requestExchange_settled ..)
  exact (modDig_settled ..).trans (modRecord_settled b.1 _ _)

theorem dropBlocker_settled (i : Nat) (p : Part) : SettledFrom p (dropBlocker i p) := by
  unfold dropBlocker
  split
  · exact SettledFrom.refl p
  · dsimp only
    refine SettledFrom.trans ?_ (clearShunt_settled i _)
    generalize hq : modDig _ _ p = q
    have h : SettledFrom p q := hq ▸ modDig_settled _ _ p
    exact SettledFrom.ite (h.trans (closeCalls_settled ..)) h

/-! ### The review -/

theorem callNext_settled (d : Dig) (p : Part) : SettledFrom p (callNext d p) := by
  unfold callNext
  split
  · exact callBlocker_settled ..
  · exact modDig_settled ..

theorem digStep_settled {p q : Part} {d : Dig} (h : digStep p d = some q) : SettledFrom p q := by
  unfold digStep at h
  split at h
  · cases h; exact endDig_settled ..
  · split at h
    · cases h; exact giveUp_settled ..
    · split at h
      · cases h; exact giveUp_settled ..
      · split at h
        · cases h; exact endDig_settled ..
        · split at h
          · split at h
            · cases h; exact callNext_settled ..
            · cases h
          · split at h
            · cases h
            · cases h; exact callNext_settled ..
          · cases h

theorem reviewStep_settled {p q : Part} (h : reviewStep p = some q) : SettledFrom p q := by
  unfold reviewStep at h
  split at h
  · rename_i q' hq
    cases h
    obtain ⟨d, -, hd⟩ := List.exists_of_findSome?_eq_some hq
    exact digStep_settled hd
  · cases ha : p.du.awards.find? p.blockedAward with
    | none => simp [ha] at h
    | some a => simp only [ha, Option.map_some] at h; cases h; exact missAward_settled a p

theorem review_settled (fuel : Nat) (p : Part) : SettledFrom p (review fuel p) := by
  induction fuel generalizing p with
  | zero => exact SettledFrom.refl p
  | succ fuel ih =>
    simp only [review]
    split
    · rename_i q hq
      exact (reviewStep_settled hq).trans (ih q)
    · exact SettledFrom.refl p

/-! ### Aspects, limits, deferred answers -/

theorem refreshLane_settled (p : Part) (n : Nat) : SettledFrom p (refreshLane p n) := by
  unfold refreshLane
  split
  · exact SettledFrom.refl p
  · rename_i l _
    have h := modLane_settled n
      (fun m => { m with computed := p.computedAspect l, displayed := p.shownAspect l (p.computedAspect l) }) p
    dsimp only
    split
    · exact h
    · exact h.trans (produce_settled _ _)

theorem refreshAspects_settled (p : Part) : SettledFrom p (refreshAspects p) :=
  SettledFrom.foldl _ refreshLane_settled _ _

theorem startLimits_settled (p : Part) : SettledFrom p (startLimits p) := by apply SettledFrom.of_eq <;> rfl

theorem modAnswer_settled (i : Nat) (f : Answer → Answer) (p : Part) : SettledFrom p (modAnswer i f p) := by
  apply SettledFrom.of_eq <;> rfl

theorem resolveAnswer_settled (p : Part) (a : Answer) : SettledFrom p (resolveAnswer p a) := by
  unfold resolveAnswer
  refine SettledFrom.trans ?_ (modAnswer_settled _ _ _)
  split
  · exact unreadExit_settled ..
  · exact SettledFrom.refl p

theorem resolveDeferred_settled (p : Part) : SettledFrom p (resolveDeferred p) :=
  SettledFrom.foldl _ resolveAnswer_settled _ _

/-! ### The transmit place -/

theorem refreshReady_settled (p : Part) : SettledFrom p (refreshReady p) := by apply SettledFrom.of_eq <;> rfl

theorem placeFrame_settled (k : FrameKey) (f : Frame) (p : Part) : SettledFrom p (placeFrame k f p) := by
  apply SettledFrom.of_eq <;> rfl

theorem markHanded_settled (k : FrameKey) (p : Part) : SettledFrom p (markHanded k p) := by
  unfold markHanded
  split
  · exact modExchange_settled ..
  · apply SettledFrom.of_eq <;> rfl
  · exact SettledFrom.refl p

theorem pump_settled (p : Part) : SettledFrom p (pump p) := by
  unfold pump
  dsimp only
  refine SettledFrom.trans (refreshReady_settled p) ?_
  split
  · split
    · split
      · exact ((placeFrame_settled _ _ _).trans (markHanded_settled _ _)).trans (unready_settled _ _)
      · exact SettledFrom.refl _
    · exact SettledFrom.refl _
  · exact SettledFrom.refl _

/-- All that `settle` can do. -/
theorem settle_settled (p : Part) : SettledFrom p (settle p) :=
  ((((resolveDeferred_settled p).trans (review_settled _ _)).trans (refreshAspects_settled _)).trans
    (startLimits_settled _)).trans (pump_settled _)

/-- All that `settleAspects` can do. -/
theorem settleAspects_settled (p : Part) : SettledFrom p (settleAspects p) :=
  (refreshAspects_settled p).trans (startLimits_settled _)

end Sys2Proof.Machine
end

