-- ==== Sys2Proof/Tests/Slice0.lean ====
section
/-! SUPPORT. The model's own tests: what WellFormed refuses,
    one small step per command with the result that the spec's rule
gives, and for every obligation with hypotheses a state and operands that meet them. -/

namespace Sys2Proof.Tests

open Sys2Proof Sys2Proof.Machine

/-! ### Small states -/

/-- The bytes of a body. -/
def bytes (l : List Nat) : List Byte := l.map (BitVec.ofNat 8)

/-- A STD bus of fuel kind D, service class 3, energy 95. -/
def bus (fleet : Nat) (place : PlaceState) : Rec :=
  { fleet := fleet, fuel := .d, lengthClass := .std, serviceClass := 3, energy := some 95, washDue := false
    washed := false, place := place, destination := none, age := 5, stray := false, doubled := false
    unconfirmed := false, census := false, fuelSkipped := false, washSkipped := false, shunt := false, wanted := none
    lapses := 0, retries := 0, attempts := 0, outcome := none, award := none, placeTimer := none, repeatTimer := none
    lastCall := none, lastLane := none }

/-- An OPEN dead-end lane of 9 units. -/
def lane (laneAlias : Nat) (entries : List Entry) : Lane :=
  { laneAlias := laneAlias, type := .deadEnd, length := 9, weight := 0, fallback := .hold, state := .opened
    entries := entries, allocs := [], computed := .stop, displayed := .stop }

/-- A TRACKED entry of 2 units. -/
def entry (fleet record : Nat) : Entry := { fleet := fleet, units := 2, kind := .tracked record, unconfirmed := false }

/-- A FREE station for fuel kind D. -/
def station : Station :=
  { fuel := some .d, state := .free, record := none, fleet := 0, level := none, startTag := 0, energyBefore := none
    timer := none, guidance := none }

/-- An ACTIVE node of number 6 with a gate, lanes 39 and 40, a FUEL point of one station, and empty queues. -/
def node : State :=
  { State.reset with
    settings := some { timeSource := true, offerRetryLimit := 1, fuelThreshold := 90, reservationTimeout := 50
                       awardLimit := 480000, repeatInterval := 10000, spacing := 50, gateHold := 90000
                       washOpen := 1080, washCutOff := 150 }
    lif := { LineInterface.atReset with lineState := .active, bitRate := some .kbit125, nodeNumber := 6 }
    lm := { lanes := [lane 39 [], lane 40 []] }
    iu := { gatePresent := true, intake := none, holdTimer := none }
    ts := { TurnScheduler.noPoint with
            kind := some .fuel, opened := true, retryLimit := 1, grantLimit := 180000, overrunLimit := 900000
            stations := [station] }
    fp := { State.reset.fp with outputs := [], reports := [] } }

/-- The record at index i. -/
def holding (i : Nat) (r : Rec) (s : State) : State := { s with rs := { s.rs with store := s.rs.store.set i (some r) } }

/-- Lane 1 as l. -/
def withLane (l : Lane) (s : State) : State := { s with lm := { lanes := [l, lane 40 []] } }

/-- The one station as st. -/
def withStation (st : Station) (s : State) : State := { s with ts := { s.ts with stations := [st] } }

/-- Level 3 holds the record at index i. -/
def withRequest (i : Nat) (s : State) : State := { s with ts := { s.ts with levels := s.ts.levels.set 3 [i] } }

/-- The bus 1001 stands PARKED in lane 1 as record 3. -/
def parked : State := withLane (lane 39 [entry 1001 3]) (holding 3 (bus 1001 .parked) node)

/-- The bus 1001 stands in lane 1 AWARDED to slot 7. -/
def awarded : State :=
  { withLane (lane 39 [entry 1001 3]) (holding 3 { bus 1001 .awarded with award := some (7, 40) } node) with
    du := { awards := [{ slot := 7, due := 40, record := 3, fleet := 1001, lane := 1, mode := .direct, timer := some 9 }]
            digs := [] } }

/-- The award of `awarded`, with mode DIGGING. -/
def dugAward : Award :=
  { slot := 7, due := 40, record := 3, fleet := 1001, lane := 1, mode := .digging, timer := none }

/-- Its dig. -/
def dig : Dig :=
  { lane := 1, target := 3, targetFleet := 1001, slot := 7, blockers := [(4, 1002)], blockerCount := 1,
    phase := .calling
    current := some (4, 1002), shunted := none, timer := some 0 }

/-- The bus 1001 stands in lane 1 behind the bus 1002, under a dig. -/
def dug : State :=
  { withLane { lane 39 [entry 1002 4, entry 1001 3] with state := .dig }
      (holding 4 (bus 1002 .parked) (holding 3 { bus 1001 .awarded with award := some (7, 40) } node)) with
    du := { awards := [dugAward], digs := [dig] } }

/-- The bus 1001 is EN_ROUTE to lane 1, which holds its allocation. -/
def inbound : State :=
  withLane { lane 39 [] with allocs := [{ record := 3, units := 2 }] }
    (holding 3 { bus 1001 .enRoute with destination := some (.lane 1), placeTimer := some 9 } node)

/-- The bus 1001 is EN_ROUTE to the point. -/
def toPoint : State := holding 3
    { bus 1001 .enRoute with destination := some (.point .fuel), placeTimer := some 9 } node

/-- The bus 1001 is GRANTED at the station. -/
def granted : State :=
  withStation { station with state := .granted, record := some 3, fleet := 1001, level := some 3, timer := some 9 }
    (holding 3 (bus 1001 .granted) node)

/-- The bus 1001 is IN_SERVICE at the station. -/
def serving : State :=
  withStation { station with state := .inService, record := some 3, fleet := 1001, level := some 3, timer := some 9
                             energyBefore := some 95 }
    (holding 3 (bus 1001 .inService) node)

/-- A part as a state. -/
def withEngine (x : ExchangeEngine) (s : State) : State := { s with xe := x }

/-- A waiting question about record 3. -/
def question : Question :=
  { record := 3, fleet := 1001, gate := false, state := .waiting, failures := 0, wait := none, answerTimer := none }

/-- A HELD berth reservation of node 9. -/
def berthHeld : Reservation :=
  { caller := 9, callId := 1, kind := .berth, resource := .berth 1 2, held := true, timer := some 9 }

/-- An answer about record 3 that waits. -/
def waitingAnswer : Answer :=
  { record := 3, fleet := 1001, asker := 9, kind := .held, gate := false, deferred := false, failures := 0,
    wait := some 0 }

/-- The exchange 1 of record 3, for a berth. -/
def exchange (st : ExchangeState) : Exchange :=
  { id := 1, kind := .berth, record := 3, requester := .rs, excluded := none, state := st, callFailures := 0
    winner := none, transferFailures := 0, wait := none, closing := false, gone := false }

/-- A transmit place. -/
def place (key : FrameKey) (sending : Bool) : TxPlace :=
  { key := key, frame := { kind := 2, cost := 0, node := 6, item := 0, addressee := 0, body := bytes [1, 1] }
    census := false, sending := sending, abandoned := false, stale := false, gone := false }

/-- The transmit place taken. -/
def withTx (t : TxPlace) (s : State) : State := { s with lif := { s.lif with tx := some t } }

/-- The quiet and stuck timers and the receive frame. -/
def withBits (quiet stuck : Nat) (rx : List Bool) (s : State) : State :=
  { s with lif := { s.lif with quiet := quiet, stuck := stuck, rx := rx } }

/-- The line state. -/
def inState (st : LineState) (s : State) : State := { s with lif := { s.lif with lineState := st } }

/-- The window of a BERTH CALL of the node `caller`. -/
def withWindow (cond : WindowCond) (caller : Nat) (s : State) : State :=
  { s with lif := { s.lif with window :=
    { cond := cond, call := some { kind := .berth, caller := caller, callId := 1, limit := 1, content := none }
      reopens := 0 } } }

/-- A frame of node 9, unmarked in its slots. -/
def frame (addressee : Nat) (body : List Nat) : RxFrame :=
  { node := 9, addressee := addressee, cost := 0, item := 2, body := bytes body, ack := false, flaw := false
    endBits := 255 }

/-- A frame of a kind whose last bit, of the check, was misread. -/
def flawed (kind : Nat) : FlawedFrame :=
  { bits := (rxBits kind (frame 0 [])).dropLast ++ [!(rxBits kind (frame 0 [])).getLastD true], ack := false, flaw := false
    endBits := 255 }

/-- The same frame with this node's number. -/
def ownFrame (addressee : Nat) (body : List Nat) : RxFrame := { frame addressee body with node := 6 }

/-- The body of a call for the bus 2002, exchange id 1: a STD bus of fuel kind D, energy 95. -/
def callBody : List Nat := [1, 1, 7, 210, 0, 0, 0, 95, 0, 0]

/-- The image of the bus 2002: service class 3, energy 95, standing age 5, no outcome. -/
def imageBody : List Nat := [7, 210, 3, 95, 0, 0, 5] ++ List.replicate 10 0

/-- The tag of a STD bus of fuel kind D. -/
def tag (fleet : Nat) : RawTag :=
  { fleet := fleet, fuel := 0, lengthClass := 0, serviceClass := 3, energy := 95, washDue := 0 }

/-- The tag as read. -/
def readTagOf (fleet : Nat) : Tag :=
  { fleet := fleet, fuel := .d, lengthClass := .std, serviceClass := 3, energy := some 95, washDue := false }

/-- A CONFIG of node 6 with two lanes, a gate and a FUEL point of one station. -/
def configBody : List Byte :=
  bytes [6, 125, 0, 1, 2, 0, 9, 39, 0, 0, 0, 12, 40, 3, 1, 1, 1, 0, 0, 1, 1, 90, 50, 3, 20, 8, 10, 0, 50, 0, 90,
         4, 56, 0, 150]

/-- The state after a command, the same state where it does not complete. -/
def after (c : Instr) (s : State) : State :=
  match exec c s with
  | .next t => t
  | .fault _ | .refused _ => s

/-- The state holds a field message's reply of a kind and result last. -/
def replied (kind : Nat) (refused : Option Reason) (s : State) : Bool :=
  s.fp.replies.getLast? == some { kind := kind, refused := refused, payload := .none }

/-! ### What WellFormed refuses -/

theorem test_wf_refuses_tag_fields :
    ([.gateArrival { tag 1 with fleet := 65536 }, .gateArrival { tag 1 with fuel := 256 },
      .gateArrival { tag 1 with lengthClass := 256 }, .gateArrival { tag 1 with serviceClass := 256 },
      .gateArrival { tag 1 with energy := 256 }, .gateArrival { tag 1 with washDue := 256 }] : List Instr).all
      (fun i => !i.wf) = true := by decide

theorem test_wf_refuses_lane_messages :
    ([.laneEntryRead 256 ⟨0, 0⟩ (tag 1), .laneEntryRead 1 ⟨256, 0⟩ (tag 1), .laneEntryRead 1 ⟨0, 0⟩ (tag 65536),
      .laneEntryRead 1 ⟨0, 256⟩ (tag 1), .laneEntryRead 1 ⟨0, 1⟩ (tag 1),
      .laneExitRead 256 0 1, .laneExitRead 1 256 1, .laneExitRead 1 0 65536, .laneHold 256, .laneOpen 256,
      .census 256 [], .census 1 (List.replicate 83 (1, 0)), .census 1 [(65536, 0)], .census 1 [(1,
        256)]] : List Instr).all
      (fun i => !i.wf) = true := by decide

theorem test_wf_refuses_other_messages :
    ([.approachRead 65536, .stationStart 256 1, .stationStart 1 65536,
      .stationEnd 256 1 0 0, .stationEnd 1 65536 0 0, .stationEnd 1 1 256 0, .stationEnd 1 1 0 256, .stationClear 256,
      .levelHold 256, .levelRelease 256, .malformedMessage 256, .messageGapTimeout 256] : List Instr).all
      (fun i => !i.wf) = true := by decide

theorem test_wf_refuses_long_config (body : List Byte) (h : body.length = 251) : (Instr.config body).wf = false := by
  simp [Instr.wf, h]

theorem test_wf_refuses_frame_fields :
    ([{ frame 0 [] with node := 32 }, { frame 0 [] with addressee := 32 }, { frame 0 [] with cost := 65536 },
      { frame 0 [] with item := 128 }, { frame 0 [] with body := List.replicate 25 0 }] : List RxFrame).all
      (fun f => !f.wf) = true := by decide

theorem test_wf_refuses_every_frame_with_a_wide_node :
    (fun f : RxFrame =>
      ([.timeMarkReceived f, .slotCallReceived f, .berthCallReceived f, .fuelCallReceived f, .washCallReceived f,
        .whereaboutsReceived f, .offerReceived f, .transferReceived f, .releaseReceived f, .heldReceived f,
        .departNoticeReceived f, .queryReceived f, .statusFrameReceived f, .nodeClaimReceived f] : List Instr).all
        (fun i => !i.wf)) { frame 0 [] with node := 32 } = true := by decide

theorem test_wf_refuses_a_long_rest (rest : List Bool) (h : rest.length = 218) :
    (Instr.ownFrameVerdict ⟨true, false, rest⟩ 255).wf = false := by
  simp [Instr.wf, h]

theorem test_wf_refuses_kinds_and_indexes :
    ([.unusedKindFrame ⟨13, frame 0 []⟩, .unusedKindFrame ⟨16, frame 0 []⟩,
      .unusedKindFrame ⟨14, { frame 0 [] with node := 32 }⟩,
      .flawedFrameReceived { flawed 3 with bits := (flawed 3).bits.dropLast },
      .flawedFrameReceived { flawed 3 with bits := true :: (flawed 3).bits.drop 1 },
      .flawedFrameReceived { flawed 3 with bits := (flawed 3).bits.take 51 },
      .flawedFrameReceived { flawed 3 with bits := List.replicate 259 false },
      .echoFault 33, .echoFault 252, .exchangeWaitExpiry 4,
      .reservationTimeout 32 0,
      .reservationTimeout 1 256, .questionWaitExpiry 96, .answerTimerExpiry 96, .answerWaitExpiry 96,
      .whereaboutsMemoryExpiry 65536 1, .whereaboutsMemoryExpiry 1 32, .inboundLimitExpiry 96, .looseLimitExpiry 96,
      .apronRepeat 96, .doubledRepeat 96, .grantLimitExpiry 0, .grantLimitExpiry 5, .overrunLimitExpiry 0,
      .overrunLimitExpiry 5, .awardTimerExpiry 4096, .digTimerExpiry 0, .digTimerExpiry 7] : List Instr).all
      (fun i => !i.wf) = true := by decide +kernel

theorem test_wf_accepts_commands :
    ([.config configBody, .gateArrival (tag 1001), .census 1 [(1001, 0)], .timeMarkReceived (frame 0 [1, 2, 3]),
      .unusedKindFrame ⟨14, frame 0 []⟩, .flawedFrameReceived (flawed 13), .exchangeWaitExpiry 3,
      .digTimerExpiry 6] : List Instr).all
      Instr.wf = true := by decide

/-- No row of the opcode table gives bits. -/
theorem test_decode_has_no_words : ([(8, 0), (16, 255), (32, 1)] : List (Nat × Nat)).all
    (fun x => (decodeTableWord x.1 x.2).isNone) = true := by decide

/-! ### One step per command -/

/-- R192. -/
theorem test_power_on_reset_queues_barrier_and_report :
    (after (.powerOnReset .kbit57_6) parked).fp.outputs = [.barrier false]
      ∧ (after (.powerOnReset .kbit57_6) parked).fp.reports = [{ report := .reset false 0, tag := 0 }] := by decide

/-- R192. -/
theorem test_external_reset_keeps_the_clock :
    (after (.externalReset .kbit57_6) { node with yc := { node.yc with seconds := 77 } }).yc.seconds = 77 := by decide

/-- R189. -/
theorem test_config_enters_joining :
    (after (.config configBody) State.reset).lif.lineState = .joining
      ∧ ((after (.config configBody) State.reset).lm.lanes.map (·.length)) = [9, 12] := by decide

/-- R183. -/
theorem test_config_short_by_a_byte_is_refused :
    replied 1 (some .range) (after (.config (configBody.drop 1)) State.reset) = true := by decide

/-- R91. -/
theorem test_gate_arrival_holds_the_bus :
    (after (.gateArrival (tag 1001)) node).iu.intake = some { record := 0, fleet := 1001 } := by decide

/-- R87. -/
theorem test_gate_arrival_during_a_hold_is_busy :
    replied 2 (some .busy) (after (.gateArrival (tag 1002)) (after (.gateArrival (tag 1001)) node)) = true := by decide

/-- R90, R150: a record reused at the gate keeps the lane that it last stood in. -/
theorem test_reused_record_keeps_its_last_lane :
    ((after (.gateArrival (tag 1001)) (holding 3 { bus 1001 .parked with lastLane := some 1 } parked)).record 3).map
      (fun r => (r.place, r.lastLane)) = some (.intake, some 1) := by decide

/-- R26. -/
theorem test_lane_entry_of_an_unknown_bus_is_stray :
    ((after (.laneEntryRead 1 ⟨0, 0⟩ (tag 1001)) node).record 0).map (fun r => (r.place, r.stray))
      = some (.parked, true) := by decide

/-- R195: a direction that is neither IN 0 nor OUT 1. -/
theorem test_lane_read_of_no_direction_is_refused :
    replied 3 (some .range) (after (.laneEntryRead 1 ⟨0, 2⟩ (tag 1001)) node) = true := by decide

/-- R25, R136. -/
theorem test_lane_entry_of_an_inbound_bus_takes_its_allocation :
    ((after (.laneEntryRead 1 ⟨0, 0⟩ (tag 1001)) inbound).lane 1).map (fun l => (l.entries, l.allocs))
      = some ([entry 1001 3], []) := by decide

/-- R28. -/
theorem test_lane_exit_of_a_parked_bus_is_loose :
    ((after (.laneExitRead 1 0 1001) parked).record 3).map (fun r => (r.place, r.placeTimer))
      = some (.loose, some 1800000) := by decide

/-- R156. -/
theorem test_lane_exit_of_an_awarded_bus_departs :
    (after (.laneExitRead 1 0 1001) awarded).record 3 = none := by decide

/-- R104. -/
theorem test_approach_read_joins_the_queue :
    ((after (.approachRead 1001) (withStation { station with state := .fault } toPoint)).record 3).map (·.place)
      = some .queued := by decide

/-- R115. -/
theorem test_station_start_serves :
    ((after (.stationStart 1 1001) granted).record 3).map (·.place) = some .inService := by decide

/-- R119, R123. -/
theorem test_station_end_serves_the_outcome :
    ((after (.stationEnd 1 1001 0 100) serving).record 3).map (fun r => (r.energy, r.outcome.map (·.endKind)))
      = some (some 100, some .normal) := by decide

/-- R120. -/
theorem test_station_fault_end_retries :
    ((after (.stationEnd 1 1001 2 100) serving).record 3).map (fun r => (r.place, r.retries))
      = some (.queued, 1) := by decide

/-- R122. -/
theorem test_station_clear_frees :
    (after (.stationClear 1) (withStation { station with state := .fault } node)).station 1 = some station := by decide

/-- R99. -/
theorem test_point_open_is_accepted :
    (after .pointOpen { node with ts := { node.ts with opened := false } }).ts.opened = true := by decide

/-- R99. -/
theorem test_point_close_is_accepted :
    (after .pointClose node).ts.opened = false := by decide

/-- R108. -/
theorem test_level_above_seven_is_seven :
    (after (.levelHold 9) node).ts.heldLevels = [7] := by decide

/-- R108. -/
theorem test_level_release_releases :
    (after (.levelRelease 3) { node with ts := { node.ts with heldLevels := [3] } }).ts.heldLevels = [] := by decide

/-- R110. -/
theorem test_next_names_the_queued_bus :
    (after .nextRequest (withRequest 3 (holding 3 (bus 1001 .queued) node))).fp.replies.map (·.payload)
      = [.next true 1001 1 0 0] := by decide

/-- R35, R36. -/
theorem test_lane_hold_shows_stop :
    ((after (.laneHold 1) node).lane 1).map (fun l => (l.state, l.computed)) = some (.held, .stop) := by decide

/-- R35, R36. -/
theorem test_lane_open_shows_go_for_an_award :
    ((after (.laneOpen 1) (withLane { lane 39 [entry 1001 3] with state := .held } awarded)).lane 1).map
      (fun l => (l.state, l.computed)) = some (.opened, .go) := by decide

/-- R34. -/
theorem test_census_creates_a_parked_record :
    ((after (.census 1 [(1001, 0)]) node).record 0).map (·.place) = some .parked := by decide

/-- R34, R170 (log entry 71): a blocker that a census of lane 2 moves there leaves its dig, whose target is then the front. -/
theorem test_census_moves_a_blocker :
    (fun s : State => s.recordIs 4 .parked = true ∧ (s.record 4).map (·.shunt) = some false ∧ s.entryOf 4 = some (2, 0)
      ∧ s.du.digs = [] ∧ s.du.awards.map (·.mode) = [.direct])
      (after (.census 2 [(1002, 0)]) (holding 4 { bus 1002 .parked with shunt := true } dug)) := by decide +kernel

/-- R33. -/
theorem test_census_beyond_the_length_is_full :
    replied 15 (some .full) (after (.census 1 [(1, 1), (2, 1), (3, 1), (4, 1)]) node) = true := by decide

/-- R61. -/
theorem test_clear_counters_zeroes_the_counts :
    (after .clearCounters { node with lif :=
      { node.lif with counters := { Counters.zero with echoFaults := 3 } } }).lif.counters.echoFaults = 0 := by decide

/-- R62. -/
theorem test_clear_lost_in_lost_is_refused :
    replied 17 (some .state) (after .clearLost (inState .lost node)) = true := by decide

/-- R194. -/
theorem test_status_starts_with_the_line_state :
    (after .statusRequest node).fp.replies.map (fun r => match r.payload with | .status b => b.take 2 | _ => [])
      = [[3, 6]] := by decide

/-- R195. -/
theorem test_malformed_message_counts :
    (after (.malformedMessage 9) node).fp.linkErrors = 1
      ∧ replied 9 (some .range) (after (.malformedMessage 9) node) = true := by decide

/-- R183. -/
theorem test_message_gap_counts :
    (after (.messageGapTimeout 3) node).fp.linkErrors = 1 := by decide

/-- R183. -/
theorem test_discarded_byte_counts :
    (after .linkByteDiscarded node).fp.linkErrors = 1 := by decide

/-- R184. -/
theorem test_input_overflow_counts :
    (after .inputOverflow (after (.laneHold 9) (after (.laneHold 9) node))).fp.overflow = 1 := by decide

/-- R186. -/
theorem test_output_line_takes_the_reply_first :
    (after .outputLineFree (after (.laneHold 1) node)).fp.replies = [] := by decide

/-- R183: the start byte 0C3H on the line, least bit first, between a start bit and a stop bit. -/
theorem test_output_line_sends_the_start_byte :
    (after .outputLineFree State.reset).fp.lineOut.map (fun o => o.bits.take 10)
      = some [false, true, true, false, false, false, false, true, true, true] := by decide

/-- R179. -/
theorem test_time_mark_sets_the_clock :
    (after (.timeMarkReceived (frame 0 [0, 14, 16])) node).yc.seconds = 3600 := by decide +kernel

/-- R147. -/
theorem test_slot_call_draws_a_bid :
    ((after (.slotCallReceived (frame 0 [1, 1, 0, 7, 0, 40, 0, 0, 50, 0])) parked).lif.tx.map (·.frame.cost))
      = some (45 * 40 + 1018) := by decide +kernel

/-- R130, R133. -/
theorem test_berth_call_draws_an_offer :
    (after (.berthCallReceived (frame 0 callBody)) node).lif.tx.map (fun t => (t.key, t.frame.item))
      = some (.offer, 1) := by decide +kernel

/-- R105. -/
theorem test_fuel_call_draws_an_offer :
    (after (.fuelCallReceived (frame 0 callBody)) node).lif.tx.map (·.key) = some .offer := by decide +kernel

/-- R105. -/
theorem test_wash_call_at_a_fuel_point_draws_none :
    (after (.washCallReceived (frame 0 callBody)) node).lif.tx.map (·.key) = none := by decide +kernel

/-- R77. -/
theorem test_whereabouts_of_a_parked_bus_is_held :
    (after (.whereaboutsReceived (frame 0 [3, 233, 0, 50])) parked).xe.answers.map (·.kind) = [.held] := by decide +kernel

/-- R50. -/
theorem test_offer_closes_the_window :
    (after (.offerReceived (frame 0 [11, 1, 39])) (withWindow .opened 11 node)).lif.window.cond = .closed := by decide +kernel

/-- R70, R136. -/
theorem test_transfer_makes_the_bus_inbound :
    ((after (.transferReceived (frame 6 (1 :: imageBody)))
      (withEngine { node.xe with reservations := [berthHeld] } node)).record 0).map (fun r => (r.fleet, r.place))
      = some (2002, .enRoute) := by decide +kernel

/-- R82, R5. -/
theorem test_release_is_merged :
    ((after (.releaseReceived (frame 6 ([3, 233] ++ imageBody.drop 2)))
      (withEngine { node.xe with questions := [question] }
        (holding 3 { bus 1001 .parked with stray := true, age := 0 } node))).record 3).map
          (fun r => (r.stray, r.age)) = some (false, 5) := by decide +kernel

/-- R82. -/
theorem test_held_doubles :
    ((after (.heldReceived (frame 6 [3, 233]))
      (withEngine { node.xe with questions := [{ question with state := .asked }] }
        (holding 3 (bus 1001 .loose) node))).record 3).map (·.doubled) = some true := by decide +kernel

/-- R46, R85. -/
theorem test_depart_notice_drives_the_slot :
    (after (.departNoticeReceived (frame 0 [3, 233, 0, 7, 39, 0, 0, 0, 9])) node).lif.droveAck = true := by decide +kernel

/-- R39: the flaw slot, recessive, and the eight bits of the end. -/
theorem test_quiet_counts_the_flaw_slot :
    (after (.departNoticeReceived (frame 0 [3, 233, 0, 7, 39, 0, 0, 0, 9])) node).lif.quiet = 9 := by decide +kernel

/-- R83. -/
theorem test_query_enters_the_list :
    (after (.queryReceived (frame 6 [1, 0])) node).xe.statusList = [{ node := 9, part := 1, index := 0 }] := by decide +kernel

/-- R85. -/
theorem test_status_frame_enters_nothing :
    (after (.statusFrameReceived (frame 6 [1, 0])) node).xe.statusList = [] := by decide +kernel

/-- R59. -/
theorem test_claim_of_the_own_number_is_answered :
    (after (.nodeClaimReceived (ownFrame 0 [1, 2, 3,
      0])) node).lif.claimAnswer.isSome ∨ (after (.nodeClaimReceived (ownFrame 0 [1, 2, 3,
        0])) node).lif.tx.isSome := by decide +kernel

/-- R41 (section 3.3). -/
theorem test_unused_kind_drives_no_slot :
    (after (.unusedKindFrame ⟨14, frame 0 []⟩) node).lif.droveAck = false := by decide +kernel

/-- R47, R61. -/
theorem test_flawed_frame_is_flawed :
    (after (.flawedFrameReceived (flawed 3)) node).lif.counters.checkFailures = 1
      ∧ (after (.flawedFrameReceived (flawed 3)) node).lif.droveFlaw = true := by decide +kernel

/-- R44. -/
theorem test_transmit_start_sends :
    (after .transmitStart (withTx (place .notice false) node)).lif.tx.map (·.sending) = some true := by decide

/-- R39: the start bit is dominant. -/
theorem test_transmit_start_restarts_the_quiet_timer :
    (after .transmitStart (withTx (place .notice false) { node with lif := { node.lif with quiet := 40 } })).lif.quiet
      = 0 := by decide

/-- R39, R43: after an end field read all dominant a frame starts after twelve recessive bits, so one dominant bit has been
read; R40: the gap is counted from the end field, the quiet timer from the slots. -/
theorem test_the_gap_is_read_before_a_start :
    (after .transmitStart (withBits 0 8 [] (withTx (place .notice false) node))).lif.stuck = 1
    ∧ (after (.departNoticeReceived (frame 0 [3, 233, 0, 7, 39, 0, 0, 0, 9])) node).lif.gap = 8 := by decide +kernel

/-- R43: a frame of another station is received first. -/
theorem test_transmit_start_waits_for_the_line :
    (after .transmitStart (withBits 0 1 [false] (withTx (place .notice false) node))).lif.tx.map (·.sending)
      = some false := by decide

/-- R50. -/
theorem test_empty_window_closes :
    (after (.windowFirstBit false) (withWindow .pending 11 node)).lif.window.cond = .closed := by decide

/-- R44. -/
theorem test_lost_contention_waits_again :
    (after .lostContention (withTx (place .notice true) node)).lif.tx.map (·.sending) = some false := by decide

/-- R45. -/
theorem test_echo_fault_abandons :
    (after (.echoFault 34) (withTx (place .notice true) node)).lif.tx.map (·.abandoned) = some true := by decide

/-- R39, R45: an abandoned frame's last bits, its slots and its end are counted. -/
theorem test_abandoned_frame_is_read_to_its_end :
    (after (.ownFrameVerdict ⟨false, false, [true, false, true]⟩ 255)
      (withTx { place .notice true with abandoned := true } node)).lif.quiet = 8
    ∧ (after (.ownFrameVerdict ⟨true, false, [true, false, false]⟩ 0)
      (withTx { place .notice true with abandoned := true } (withBits 0 3 [false] node))).lif.stuck = 12 := by decide

/-- R50. -/
theorem test_delivered_call_opens_the_window :
    (after (.ownFrameVerdict ⟨true, false, []⟩ 255) (withTx (place (.call 1) true)
      (withEngine { node.xe with exchanges := [exchange .called] }
        (holding 3 (bus 1001 .served) node)))).lif.window.cond = .pending := by decide +kernel

/-- R53. -/
theorem test_joining_with_a_number_is_active :
    (after .joiningComplete (inState .joining node)).lif.lineState = .active := by decide

/-- R55. -/
theorem test_lost_line_is_flagged :
    (after .lineLost node).lif.lineLost = true := by decide

/-- R55: the frame that was being received is dropped. -/
theorem test_lost_line_drops_the_receive_frame : (after .lineLost (withBits 0 1 [false] node)).lif.rx = [] := by decide

/-- R55. -/
theorem test_lost_end_joins :
    (after .lostEnd (inState .lost node)).lif.lineState = .joining := by decide

/-- R54. -/
theorem test_stand_down_ends_in_joining :
    (after .standDownExpiry (inState .mute { node with lif :=
      { node.lif with standDown := some 0 } })).lif.lineState = .joining := by decide

/-- R57. -/
theorem test_listening_period_claims_the_lowest_number :
    (after .listeningPeriodExpiry (inState .claiming { node with lif :=
      { node.lif with claim := { Claim.empty with heard := [1, 2], timer := some 0 } } })).lif.claim.number
        = some 3 := by decide

/-- R57. -/
theorem test_confirm_period_takes_the_number :
    (after .confirmPeriodExpiry (inState .claiming { node with lif :=
      { node.lif with claim := { Claim.empty with number := some 3, timer := some 0 } } })).lif.nodeNumber
        = 3 := by decide

/-- R48, R57, R61: a claim that nobody acknowledges is a failed own frame, and its confirm period starts. -/
theorem test_unacknowledged_claim_is_counted :
    (fun s : State => s.lif.counters.ownFailures = 1 ∧ s.lif.claim.timer = some 500 ∧ s.lif.claim.number = some 3)
      (after (.ownFrameVerdict ⟨false, false, []⟩ 255) (withTx (place .claim true) (inState .claiming { node with lif :=
        { node.lif with claim := { Claim.empty with number := some 3 } } }))) := by decide +kernel

/-- R65. -/
theorem test_spacing_expiry_stops_the_timer :
    (after .spacingTimerExpiry (withEngine { node.xe with spacing := some 0 } node)).xe.spacing = none := by decide

/-- R75. -/
theorem test_exchange_wait_outside_active_counts :
    (after (.exchangeWaitExpiry 1) (inState .joining
      (withEngine { node.xe with exchanges := [{ exchange .pending with wait := some 0 }] }
        (holding 3 (bus 1001 .served) node)))).xe.exchanges.map (·.callFailures) = [1] := by decide

/-- R68. -/
theorem test_reservation_timeout_releases :
    (after (.reservationTimeout 9 1) (withEngine { node.xe with reservations := [{ berthHeld with timer := some 0 }] }
      node)).xe.reservations = [] := by decide

/-- R76. -/
theorem test_question_wait_expires :
    (after (.questionWaitExpiry 3)
      (withEngine { node.xe with questions := [{ question with wait := some 0 }] }
        (holding 3 (bus 1001 .loose) node))).xe.questions.map (·.wait) = [none] := by decide

/-- R76. -/
theorem test_unanswered_question_is_over :
    (after (.answerTimerExpiry 3)
      (withEngine { node.xe with questions := [{ question with state := .asked, answerTimer := some 0 }] }
        (holding 3 (bus 1001 .loose) node))).xe.questions.map (·.state) = [.over] := by decide

/-- R79. -/
theorem test_answer_wait_expires :
    (after (.answerWaitExpiry 3) (withEngine { node.xe with answers := [waitingAnswer] }
      (holding 3 (bus 1001 .loose) node))).xe.answers.map (·.wait) = [none] := by decide

/-- R84. -/
theorem test_notice_wait_expires :
    (after .noticeWaitExpiry (withEngine { node.xe with noticeWait := some 0 } node)).xe.noticeWait = none := by decide

/-- R81. -/
theorem test_remembered_question_is_forgotten :
    (after (.whereaboutsMemoryExpiry 1001 9)
      (withEngine { node.xe with memory :=
        [{ fleet := 1001, asker := 9, gate := false, expiry := some 0 }] } node)).xe.memory = [] := by decide

/-- R11. -/
theorem test_inbound_limit_makes_loose :
    ((after (.inboundLimitExpiry 3) inbound).record 3).map (·.place) = some .loose := by decide

/-- R12. -/
theorem test_loose_limit_deletes :
    (after (.looseLimitExpiry 3) (holding 3 { bus 1001 .loose with placeTimer := some 0 } node)).record 3
      = none := by decide

/-- R129. -/
theorem test_apron_repeat_opens_an_exchange :
    (after (.apronRepeat 3) (holding 3 { bus 1001 .apron with repeatTimer := some 0 } node)).xe.exchanges.map
      (fun e => (e.record, e.kind)) = [(3, .berth)] := by decide

/-- R8. -/
theorem test_doubled_repeat_asks_again :
    (after (.doubledRepeat 3)
      (holding 3 { bus 1001 .loose with doubled := true, repeatTimer := some 0 } node)).xe.questions.map (·.state)
        = [.waiting] := by decide

/-- R94. -/
theorem test_gate_hold_limit_ends_the_hold :
    (after .gateHoldExpiry (after (.gateArrival (tag 1001)) node)).iu.intake = none := by decide

/-- R113. -/
theorem test_first_lapse_queues :
    ((after (.grantLimitExpiry 1) { granted with ts := { granted.ts with opened := false } }).record 3).map
      (fun r => (r.place, r.lapses)) = some (.queued, 1) := by decide

/-- R121. -/
theorem test_overrun_faults_the_station :
    ((after (.overrunLimitExpiry 1) serving).station 1).map (·.state) = some .fault := by decide

/-- R155. -/
theorem test_award_limit_parks_the_bus :
    ((after (.awardTimerExpiry 7) awarded).record 3).map (fun r => (r.place, r.award))
      = some (.parked, none) := by decide

/-- R10. -/
theorem test_minute_tick_ages :
    ((after .minuteTick { parked with yc := { parked.yc with isSet := true } }).record 3).map (·.age)
      = some 6 := by decide

/-! ### States and operands that meet the hypotheses of each obligation -/

/-- The node has both receive places free. -/
theorem node_receives : node.receives := by unfold State.receives; decide

/-- The node hears frames. -/
theorem node_listens : node.Listens := ⟨rfl, nofun, rfl⟩

/-- The node with both receive places taken, and n reports waiting. -/
def full (n : Nat) : State :=
  { node with fp := { node.fp with
      replies := List.replicate 2 { kind := 12, refused := none, payload := .none }
      reports := List.replicate n { report := .lineLost, tag := 0 } } }

/-- The node with one list of the Exchange Engine set by f, and the record 3. -/
def engine (r : Rec) (f : ExchangeEngine → ExchangeEngine) : State := withEngine (f node.xe) (holding 3 r node)

theorem witness_StepRunsTheFrontCommand :
    ({ node with pending := [.minuteTick, .pointOpen] } : State).pending = .minuteTick :: [.pointOpen] := rfl

theorem witness_IdleStepRunsThePartsOwnTime :
    (node.pending = [] ∧ (withEngine { node.xe with spacing := some 0 } node).dueNext = some .spacingTimerExpiry)
    ∧ (node.pending = [] ∧ node.dueNext = none ∧ node.tickNext = false)
    ∧ ((fun s : State => s.pending = [] ∧ s.dueNext = none ∧ s.tickNext = true)
        { node with yc := { seconds := 86399, partMs := 999, isSet := true, washOpen := true } }) := by decide

theorem witness_IdleStepRunsThePartsOwnTime_bits :
    (node.lif.lineState ≠ .offline ∧ node.lif.rx = [] ∧ node.lif.bitRate = some .kbit125 ∧ node.dueNext = none)
    ∧ ((withBits 0 1 [false] node).lif.rx ≠ [] ∧ (withBits 0 1 [false] node).dueNext = none)
    ∧ ((inState .lost node).lif.quiet = 0 ∧ (inState .lost node).dueNext = none)
    ∧ 256 ≤ (withBits 0 256 [] node).lif.stuck
    ∧ (fun s : State => s.lif.lineState = .joining ∧ s.lif.stuck < 256 ∧ 64 ≤ s.lif.quiet)
      (withBits 64 0 [] (inState .joining node))
    ∧ (fun s : State => s.lif.lineState = .lost ∧ 64 ≤ s.lif.quiet) (withBits 64 0 [] (inState .lost node))
    ∧ ((withWindow .pending 9 node).lif.rx = [] ∧ (withWindow .pending 9 node).lif.window.cond = .pending)
    ∧ (fun s : State => s.lif.rx = [] ∧ s.lif.window.cond = .closed ∧ s.lif.tx = some (place .notice false))
      (withTx (place .notice false) node) := by decide

/-- R39: an idle line of 125 kbit/s is recessive for 125 bits in a millisecond; R53: 64 of them end JOINING. -/
theorem test_idle_line_ends_joining :
    ((tickTimers (inState .joining node).toPart).lif.quiet = 125)
    ∧ (withBits 125 0 [] (inState .joining node)).dueNext = some .joiningComplete := by decide

/-- R39: an OFFLINE node reads no bit. -/
theorem test_offline_reads_no_bit : (tickTimers State.reset.toPart).lif.quiet = 0 := by decide +kernel

/-- The bus 2002 stands PARKED in lane 1, first, and the bus 1001 behind it. -/
def twoParked : State :=
  withLane (lane 39 [entry 2002 4, entry 1001 3])
    (holding 4 { bus 2002 .parked with energy := some 95 } (holding 3 (bus 1001 .parked) node))

/-- Every lane of the node is one of two. -/
theorem node_lanes (n : Nat) (l : Lane) (h : node.toPart.lane n = some l) :
    (n = 1 ∧ l = lane 39 []) ∨ (n = 2 ∧ l = lane 40 []) := by
  match n, h with
  | 0, h => cases h
  | 1, h => exact .inl ⟨rfl, (Option.some.inj h).symm⟩
  | 2, h => exact .inr ⟨rfl, (Option.some.inj h).symm⟩
  | _ + 3, h => cases h

theorem witness_EveryStepKeepsTheBounds :
    (fun s : State => s.toPart.Bounded ∧ s.recordCount ≤ 96 ∧ s.queuePlaces ≤ 16 ∧ s.awardPlaces ≤ 8
      ∧ s.toPart.DigsHold ∧ s.toPart.LanesHold ∧ s.toPart.FleetsDiffer ∧ ∃ t, step s = .next t)
      { node with pending := [.pointClose] } := by
  refine ⟨⟨by decide, by decide, by decide, ⟨by decide, by decide, by decide, by decide, by decide, by decide⟩,
    ⟨nofun, List.nodup_nil, by decide, by decide, by decide, by decide, by decide⟩, ⟨by decide, by decide⟩,
    ⟨by decide, by decide, by decide, by decide, by decide, by decide, by decide⟩⟩, by decide, by decide, by decide,
    ⟨by decide, by decide, List.nodup_nil, nofun⟩, fun n l h => ?_, fun i j r q h _ _ => ?_, _, rfl⟩
  · rcases node_lanes n l h with ⟨rfl, rfl⟩ | ⟨rfl, rfl⟩ <;> decide
  · have hn : node.toPart.record i = none := by
      have hs : node.toPart.rs.store = List.replicate 96 none := rfl
      rw [Part.record, hs, List.getElem?_replicate]
      split <;> rfl
    exact absurd (hn.symm.trans h) nofun

theorem witness_SettingsAreLockedUntilReset :
    (node.lif.lineState ≠ .offline ∧ isReset .pointClose = false
      ∧ (node.lif.lineState = .claiming → node.lif.nodeNumber = 0) ∧ ∃ t, exec .pointClose node = .next t)
    ∧ (fun s : State => (s.lif.lineState = .claiming → s.lif.nodeNumber = 0)
        ∧ ∃ t, exec .pointClose s = .next t ∧ t.lif.lineState = .claiming)
      { node with lif := { node.lif with lineState := .claiming, nodeNumber := 0 } } :=
  ⟨⟨by decide, rfl, nofun, _, rfl⟩, fun _ => rfl, _, rfl, rfl⟩

theorem witness_FaultCountersNeverFall :
    node.lif.counters.Bounded ∧ isReset .pointClose = false ∧ Instr.pointClose ≠ .clearCounters
      ∧ ∃ t, exec .pointClose node = .next t :=
  ⟨⟨by decide, by decide, by decide, by decide, by decide, by decide⟩, rfl, nofun, _, rfl⟩

theorem witness_ConfigStartsTheNode :
    State.reset.receives ∧ State.reset.lif.lineState = .offline ∧ configOk configBody = true
      ∧ (rawConfig configBody).taken.aliasesDiffer = true ∧ (rawConfig configBody).taken.kind.isSome
      ∧ State.reset.fp.outputs.length + (rawConfig configBody).taken.lanes.length
          + (rawConfig configBody).taken.stations.length ≤ 64
      ∧ State.reset.fp.reports.length + (rawConfig configBody).taken.reports.length ≤ 31 :=
  ⟨by unfold State.receives; decide, by decide⟩

/-- A CONFIG of a node with one lane and no point: ROTATING, retry limit 2, grant limit 3 min, overrun limit the default. -/
def noPointBody : List Byte :=
  bytes [6, 125, 0, 1, 1, 0, 9, 39, 0, 0, 0, 1, 2, 1, 90, 50, 3, 255, 8, 10, 0, 50, 0, 90, 4, 56, 0, 150]

theorem witness_ConfigStartsTheNode_no_point :
    configOk noPointBody = true ∧ (rawConfig noPointBody).taken.aliasesDiffer = true
      ∧ (rawConfig noPointBody).taken.kind = none := by decide

/-- R189, R191: a CONFIG of point kind NONE stores the turn settings; its overrun default is 15 min. -/
theorem test_config_of_no_point_stores_the_turn_settings :
    (fun t : TurnScheduler => (t.kind, t.rotating, t.retryLimit, t.grantLimit, t.overrunLimit, t.stations))
      (after (.config noPointBody) State.reset).ts = (none, true, 2, 180000, 900000, []) := by decide

/-- A CONFIG whose two lanes carry one alias. -/
def doubledAlias : List Byte := configBody.set 12 39

theorem witness_ConfigIsRefused :
    (node.receives ∧ configOk (configBody.drop 1) = false)
    ∧ (node.receives ∧ configOk doubledAlias = true ∧ (rawConfig doubledAlias).taken.aliasesDiffer = false)
    ∧ (node.receives ∧ configOk configBody = true ∧ (rawConfig configBody).taken.aliasesDiffer = true
      ∧ node.lif.lineState ≠ .offline) :=
  ⟨⟨node_receives, by decide⟩, ⟨node_receives, by decide⟩, ⟨node_receives, by decide⟩⟩

theorem witness_ConfigValuesAreClamped :
    (rawConfig configBody).reservationTimeout ≠ 255 ∧ (rawConfig (configBody.set 22 255)).reservationTimeout = 255 := by
  decide

theorem witness_MessageWithoutAPlaceIsLost :
    (messageKind (.laneHold 1) = some 13 ∧ 2 ≤ (full 31).fp.replies.length ∧ (full 31).fp.reports.length < 32)
    ∧ (messageKind (.config []) = some 1 ∧ 2 ≤ (full 32).fp.replies.length ∧ 32 ≤ (full 32).fp.reports.length)
    ∧ node.receives :=
  ⟨by decide, by decide, node_receives⟩

theorem witness_LinkErrorsAreCounted : node.receives := node_receives

theorem witness_CountersAndLostFlagAreCleared :
    (node.receives ∧ node.lif.lineState ≠ .lost) ∧ ((inState .lost node).receives
      ∧ (inState .lost node).lif.lineState = .lost) :=
  ⟨⟨node_receives, by decide⟩, ⟨node_receives, rfl⟩⟩

theorem witness_StatusReplyCarriesTheCounts : node.receives := node_receives

theorem witness_StatusReplyCarriesTheCounts_parts :
    State.reset.ts.kind = none ∧ (dug.receives ∧ dug.ts.kind.isSome ∧ dug.station 1 = some station
      ∧ dug.lane 1 = some { lane 39 [entry 1002 4, entry 1001 3] with state := .dig }
      ∧ dug.du.awards[0]? = some dugAward ∧ dug.du.digs[0]? = some dig) :=
  ⟨rfl, node_receives, by decide⟩

theorem witness_OutputLineTakesTheFirstWaiting :
    (∃ line : SentMessage → OutLine, ∀ m, line m =
      { message := m, bytes := fieldBytes m.parts.1 m.parts.2,
        bits := (fieldBytes m.parts.1 m.parts.2).flatMap fun b =>
          [false, b.getLsbD 0, b.getLsbD 1, b.getLsbD 2, b.getLsbD 3, b.getLsbD 4, b.getLsbD 5, b.getLsbD 6,
           b.getLsbD 7, true] })
    ∧ (full 0).fp.replies = { kind := 12, refused := none, payload := .none } ::
      [{ kind := 12, refused := none, payload := .none }]
    ∧ (State.reset.fp.replies = [] ∧ State.reset.fp.outputs = .barrier false :: [])
    ∧ ((fun f : FieldPort => f.replies = [] ∧ f.outputs = [] ∧ f.reports = { report := .lineLost, tag := 0 } :: [])
        { node.fp with reports := [{ report := .lineLost, tag := 0 }] })
    ∧ (node.fp.replies = [] ∧ node.fp.outputs = [] ∧ node.fp.reports = [])
    ∧ (255 < 256 ∧ (List.replicate 250 (0 : Byte)).length ≤ 250) :=
  ⟨⟨_, fun _ => rfl⟩, by decide +kernel⟩

/-- Sixty-four outputs of which none supersedes another, the tenth a GUIDANCE marked LATE. -/
def fullQueue : List Output :=
  List.replicate 9 (.barrier true) ++ [.guidance 1001 .late .apron .none] ++ List.replicate 54 (.barrier true)

theorem witness_OutputLineTakesTheFirstWaiting_queue :
    (∀ o : Output, (List.replicate 61 o).length < if node.iu.intake.isSome && !o.forGate then 62 else 64)
    ∧ (Superseded (.laneAspect 1 39 .go :: List.replicate 62 (.barrier true) ++ [.laneAspect 1 39 .stop]) 0)
    ∧ (64 ≤ fullQueue.length ∧ (∀ k, ¬ Superseded fullQueue k)
      ∧ fullQueue[9]? = some (.guidance 1001 .late .apron .none)
      ∧ ∀ j f m sh re, j < 9 → fullQueue[j]? = some (.guidance f m sh re) → m = .gate)
    ∧ (64 ≤ (List.replicate 64 (Output.barrier true)).length
      ∧ ∀ f m sh re, Output.guidance f m sh re ∈ List.replicate 64 (.barrier true) → m = .gate) := by
  have hfull : ∀ o ∈ fullQueue, o = .barrier true ∨ o = .guidance 1001 .late .apron .none := by decide
  refine ⟨fun o => ?_, ⟨63, _, _, by decide, rfl, rfl, rfl⟩, ⟨by decide, fun k => ?_, rfl, fun j f m sh re hj h => ?_⟩,
    by decide, fun f m sh re h => absurd (List.eq_of_mem_replicate h) nofun⟩
  · rw [List.length_replicate]; split <;> decide
  · rintro ⟨j, a, b, _, ha, hb, h⟩
    rcases hfull a (List.mem_of_getElem? ha) with rfl | rfl <;> exact absurd h nofun
  · have hb : ∀ j, j < 9 → fullQueue[j]? = some (.barrier true) := by decide
    exact absurd ((hb j hj).symm.trans h) nofun

theorem witness_ReportsQueueUpToThirtyTwo :
    ((full 31).fp.reports.length < 32) ∧ ((full 32).fp.reports.length = 32)
    ∧ ((fun f : FieldPort => f.replies = [] ∧ f.outputs = [] ∧ f.reports = { report := .lineLost, tag := 0 } :: [])
        { node.fp with reports := [{ report := .lineLost, tag := 0 }] })
    ∧ node.receives :=
  ⟨by decide, by decide, by decide, node_receives⟩

theorem witness_GateArrivalStartsTheHold :
    (node.receives ∧ node.iu.gatePresent = true ∧ node.iu.intake = none ∧ readRawTag (tag 9999) = some (readTagOf 9999)
      ∧ node.fp.outputs.length ≤ 61 ∧ node.findFleet 9999 = none ∧ node.recordCount < 96 ∧ node.freeIndex = some 0
      ∧ node.freeExchangeId = some 0 ∧ node.exchangeOf 0 = none ∧ node.du.digs = [])
    ∧ (parked.receives ∧ parked.iu.gatePresent = true ∧ parked.iu.intake = none
      ∧ readRawTag (tag 1001) = some (readTagOf 1001) ∧ parked.fp.outputs.length ≤ 61
        ∧ parked.findFleet 1001 = some 3) :=
  ⟨⟨node_receives, by decide⟩, ⟨node_receives, by decide⟩⟩

/-- The record store full, and the outputs at the most that R87 lets pass, with room for the lanes' aspects; at the most without. -/
theorem witness_GateArrivalStartsTheHold_full_store :
    (fun s : State => s.receives ∧ s.iu.gatePresent = true ∧ s.iu.intake = none
      ∧ readRawTag (tag 1001) = some (readTagOf 1001) ∧ s.fp.outputs.length ≤ 61 ∧ s.findFleet 1001 = none
      ∧ 96 ≤ s.recordCount ∧ s.fp.outputs.length + s.lm.lanes.length ≤ 62)
      { node with rs := { node.rs with store := List.replicate 96 (some (bus 5000 .apron)) }
                  fp := { node.fp with outputs := List.replicate 60 (.barrier true) } } :=
  ⟨node_receives, by decide +kernel⟩

/-- The bus 1001 is AWARDED behind another, and arrives at the gate. -/
theorem witness_GateArrivalStartsTheHold_reused :
    (fun s : State => s.receives ∧ s.iu.gatePresent = true ∧ s.iu.intake = none
      ∧ readRawTag (tag 1001) = some (readTagOf 1001) ∧ s.findFleet 1001 = some 3
      ∧ s.record 3 = some { bus 1001 .awarded with award := some (7, 40) } ∧ s.entryOf 3 = some (1, 0)
      ∧ s.lane 1 = some (lane 39 [entry 1001 3]) ∧ s.freeExchangeId.isSome = true ∧ s.rs.wantedOrder = []
      ∧ s.du.digs = [] ∧ s.xe.exchanges = [] ∧ s.fp.outputs.length + s.ts.stations.length ≤ 62
      ∧ s.fp.reports.length < 27)
      { awarded with fp := { node.fp with outputs := List.replicate 61 (.barrier true) } } :=
  ⟨node_receives, by decide⟩

theorem witness_GateHoldLimitEndsTheHold :
    (fun s : State => s.iu.intake = some { record := 3, fleet := 1001 } ∧ s.iu.holdTimer = some 0)
      { node with iu := { gatePresent := true, intake := some { record := 3, fleet := 1001 }, holdTimer := some 0 } } := by
  decide

/-- A THROUGH lane. -/
def throughLane : Lane := { lane 39 [] with type := .through }

theorem witness_UnknownBusReadInBecomesStray :
    (fun s : State => s.receives ∧ s.lane 1 = some throughLane ∧ throughLane.hasReader 0 = true
      ∧ throughLane.type = .through
      ∧ readRawTag (tag 1001) = some (readTagOf 1001) ∧ s.findFleet 1001 = none ∧ s.findEntry 1001 = none
      ∧ s.fits 1 (readTagOf 1001).lengthClass.units = true ∧ s.recordCount < 96 ∧ s.freeIndex = some 0)
      (withLane throughLane node) :=
  ⟨node_receives, by decide⟩

/-- Lane 1 full: four entries and no room for a fifth. -/
def fullLane : State :=
  withLane (lane 39 [entry 2001 4, entry 2002 5, entry 2003 6, entry 1001 3]) (holding 3 (bus 1001 .parked) node)

theorem witness_UnknownBusReadInBecomesStray_giving_way :
    (fullLane.lane 1 = some (lane 39 [entry 2001 4, entry 2002 5, entry 2003 6, entry 1001 3]) ∧ 9 ≤ (lane 39 []).length
      ∧ fullLane.placesInUse 1 ≤ 12 ∧ fullLane.toPart.fits 1 2 = false
      ∧ (shedOne 1 fullLane.toPart).fits 1 2 = true ∧ node.toPart.fits 1 9 = true)
    ∧ ((withEngine { node.xe with reservations := [berthHeld] } node).xe.reservations = [] ++ berthHeld :: []
      ∧ berthHeld.resource = .berth 1 2)
    ∧ ((∀ x ∈ inbound.xe.reservations, ∀ m, x.resource ≠ .berth 1 m)
      ∧ inbound.lane 1 = some { lane 39 [] with allocs := [{ record := 3, units := 2 }] }
      ∧ ({ lane 39 [] with allocs := [{ record := 3, units := 2 }] } : Lane).allocs = [] ++ [{ record := 3, units := 2 }]
      ∧ inbound.record 3 = some { bus 1001 .enRoute with destination := some (.lane 1), placeTimer := some 9 })
    ∧ ((∀ x ∈ fullLane.xe.reservations, ∀ m, x.resource ≠ .berth 1 m)
      ∧ (lane 39 [entry 2001 4, entry 2002 5, entry 2003 6, entry 1001 3]).allocs = []
      ∧ (lane 39 [entry 2001 4, entry 2002 5, entry 2003 6, entry 1001 3]).entries
          = [entry 2001 4, entry 2002 5, entry 2003 6] ++ [entry 1001 3]
      ∧ (entry 1001 3).kind = .tracked 3 ∧ fullLane.record 3 = some (bus 1001 .parked)) :=
  ⟨by decide, by decide, ⟨nofun, by decide⟩, ⟨nofun, by decide⟩⟩

theorem witness_UnknownBusReadInBecomesStray_award_shed :
    (∀ x ∈ awarded.xe.reservations, ∀ m, x.resource ≠ .berth 1 m) ∧ (lane 39 [entry 1001 3]).allocs = []
      ∧ awarded.lane 1 = some (lane 39 [entry 1001 3]) ∧ (lane 39 [entry 1001 3]).entries = [] ++ [entry 1001 3]
      ∧ awarded.record 3 = some { bus 1001 .awarded with award := some (7, 40) }
      ∧ awarded.awardOf 3 = some { slot := 7, due := 40, record := 3, fleet := 1001, lane := 1, mode := .direct,
                                   timer := some 9 }
      ∧ awarded.xe.notices.length < 8 :=
  ⟨nofun, by decide⟩

/-- The record store full, with lane 1 THROUGH. -/
def fullStore : State := { withLane throughLane node with
    rs := { node.rs with store := List.replicate 96 (some (bus 5000 .apron)) } }

theorem witness_UnknownBusReadInBecomesStray_full_store :
    (fun s : State => s.receives ∧ s.lane 1 = some throughLane ∧ throughLane.hasReader 0 = true
      ∧ throughLane.hasReader 1 = true ∧ readRawTag (tag 1001) = some (readTagOf 1001) ∧ s.findFleet 1001 = none
      ∧ s.findEntry 1001 = none ∧ s.fits 1 (readTagOf 1001).lengthClass.units = true ∧ 96 ≤ s.recordCount
      ∧ s.fp.reports.length < 31) fullStore :=
  ⟨node_receives, by decide +kernel⟩

theorem witness_InboundBusReadInIsParked :
    inbound.receives ∧ inbound.lane 1 = some { lane 39 [] with allocs := [{ record := 3, units := 2 }] }
      ∧ (lane 39 []).hasReader 0 = true ∧ readRawTag (tag 1001) = some (readTagOf 1001) ∧ inbound.findEntry 1001 = none
      ∧ inbound.findFleet 1001 = some 3
      ∧ inbound.record 3 = some { bus 1001 .enRoute with destination := some (.lane 1), placeTimer := some 9 }
      ∧ inbound.allocOf 3 = some 1 ∧ inbound.allocUnits 1 3 = some 2 :=
  ⟨node_receives, by decide⟩

theorem witness_InboundBusReadInIsParked_moved :
    twoParked.receives ∧ twoParked.lane 2 = some (lane 40 []) ∧ (lane 40 []).hasReader 0 = true
      ∧ readRawTag (tag 1001) = some (readTagOf 1001) ∧ twoParked.findEntry 1001 = some (1, 1) ∧ 1 ≠ 2
      ∧ twoParked.lane 1 = some (lane 39 [entry 2002 4, entry 1001 3])
      ∧ (lane 39 [entry 2002 4, entry 1001 3]).entries[1]? = some (entry 1001 3) ∧ (entry 1001 3).kind = .tracked 3
      ∧ twoParked.findFleet 1001 = some 3 ∧ twoParked.record 3 = some (bus 1001 .parked)
      ∧ twoParked.allocOf 3 = none ∧ twoParked.fits 2 (bus 1001 .parked).lengthClass.units = true
      ∧ (lane 40 []).type = .deadEnd :=
  ⟨node_receives, by decide⟩

theorem witness_FrontBusReadOutLeavesTheLane :
    (parked.receives ∧ parked.lane 1 = some (lane 39 [entry 1001 3])
      ∧ (lane 39 [entry 1001 3]).entries = entry 1001 3 :: []
      ∧ fleetOk 1001 = true ∧ (entry 1001 3).kind = .tracked 3 ∧ parked.record 3 = some (bus 1001 .parked))
    ∧ (awarded.receives ∧ awarded.lane 1 = some (lane 39 [entry 1001 3])
      ∧ awarded.record 3 = some { bus 1001 .awarded with award := some (7, 40) }
      ∧ awarded.awardOf 3 = some { slot := 7, due := 40, record := 3, fleet := 1001, lane := 1, mode := .direct,
                                   timer := some 9 }
      ∧ awarded.xe.notices.length < 8)
    ∧ ((withLane (lane 39 [{ entry 1001 3 with kind := .outbound }]) node).receives
      ∧ (withLane (lane 39 [{ entry 1001 3 with kind := .outbound }]) node).lane 1
          = some (lane 39 [{ entry 1001 3 with kind := .outbound }])) :=
  ⟨⟨node_receives, by decide⟩, ⟨node_receives, by decide⟩, ⟨node_receives, by decide⟩⟩

theorem witness_FrontBusReadOutLeavesTheLane_alone :
    (∀ x ∈ ([] : List Entry), x.kind ≠ .tracked 3) ∧ awarded.stationOf 3 = none
      ∧ ∀ m o, awarded.lane m = some o → (∀ x ∈ o.entries, x.kind = .tracked 3 → m = 1) ∧ ∀ x ∈ o.allocs, x.record ≠ 3 := by
  refine ⟨nofun, by decide, fun m o h => ?_⟩
  match m, h with
  | 0, h => cases h
  | 1, h => obtain rfl := Option.some.inj h; exact ⟨fun _ _ _ => rfl, nofun⟩
  | 2, h => obtain rfl := Option.some.inj h; exact ⟨nofun, nofun⟩
  | _ + 3, h => cases h

/-- The two buses stand in a THROUGH lane. -/
def twoThrough : State := withLane { throughLane with entries := [entry 2002 4, entry 1001 3] } twoParked

theorem witness_FrontBusReadOutLeavesTheLane_order_faults :
    (twoParked.receives ∧ twoParked.lane 1 = some (lane 39 [entry 2002 4, entry 1001 3])
      ∧ (lane 39 [entry 2002 4, entry 1001 3]).entries = [entry 2002 4] ++ entry 1001 3 :: []
      ∧ (∀ x ∈ [entry 2002 4], x.fleet ≠ (entry 1001 3).fleet) ∧ fleetOk (entry 1001 3).fleet = true
      ∧ 0 = 0 ∧ [entry 2002 4] ≠ [] ∧ (entry 1001 3).kind = .tracked 3 ∧ twoParked.record 3 = some (bus 1001 .parked)
      ∧ (entry 2002 4).kind = .tracked 4 ∧ twoParked.record 4 = some (bus 2002 .parked))
    ∧ (twoThrough.receives ∧ twoThrough.lane 1 = some { throughLane with entries := [entry 2002 4, entry 1001 3] }
      ∧ ({ throughLane with entries := [entry 2002 4, entry 1001 3] } : Lane).entries = [] ++ entry 2002 4 :: [entry 1001 3]
      ∧ throughLane.type = .through ∧ fleetOk (entry 2002 4).fleet = true
      ∧ twoThrough.record 4 = some (bus 2002 .parked))
    ∧ (({ entry 1001 3 with kind := .untracked } : Entry).kind = .untracked) :=
  ⟨⟨node_receives, by decide⟩, ⟨node_receives, by decide⟩, rfl⟩

/-- The AWARDED bus 1001 stands in lane 1 behind the bus 2002. -/
def awardedBehind : State :=
  { holding 3 { bus 1001 .awarded with award := some (7, 40) } twoParked with
    du := { awards := [{ slot := 7, due := 40, record := 3, fleet := 1001, lane := 1, mode := .direct, timer := none }]
            digs := [] } }

theorem witness_FrontBusReadOutLeavesTheLane_award_out_of_order :
    awardedBehind.receives ∧ awardedBehind.lane 1 = some (lane 39 [entry 2002 4, entry 1001 3])
      ∧ awardedBehind.record 3 = some { bus 1001 .awarded with award := some (7, 40) }
      ∧ awardedBehind.awardOf 3 = some { slot := 7, due := 40, record := 3, fleet := 1001, lane := 1, mode := .direct,
                                         timer := none }
      ∧ awardedBehind.xe.notices.length < 8 ∧ (∀ x ∈ [entry 2002 4] ++ [], x.kind ≠ .tracked 3)
      ∧ awardedBehind.record 4 = some (bus 2002 .parked) :=
  ⟨node_receives, by decide⟩

/-- R29, R156: an AWARDED bus read out behind another departs, and the other is unconfirmed. -/
theorem test_award_out_of_order_departs :
    (fun s : State => (s.record 3 = none ∧ s.du.awards = [])
      ∧ (s.record 4).map (·.unconfirmed) = some true
      ∧ s.fp.reports.map (·.report) = [.departNotice { fleet := 1001, slot := 7, laneAlias := 39, kind := .departed, tag := 0 },
          .orderFault 39 1001 .nonFrontExit])
      (after (.laneExitRead 1 0 1001) awardedBehind) := by decide

theorem witness_UnknownExitOnlyReports :
    node.receives ∧ node.lane 1 = some (lane 39 []) ∧ (lane 39 []).hasReader 0 = true ∧ fleetOk 9999 = true
      ∧ (∀ x ∈ (lane 39 []).entries, x.fleet ≠ 9999) :=
  ⟨node_receives, by decide, by decide, by decide, nofun⟩

theorem witness_LaneIsHeldAndOpened : node.receives ∧ node.lane 2 = some (lane 40 []) ∧ (lane 40 []).state ≠ .dig :=
  ⟨node_receives, by decide⟩

/-- Every other lane of the node shows what it should, and no output waits. -/
theorem witness_LaneIsHeldAndOpened_outputs :
    (∀ m o, node.lane m = some o → m ≠ 2 → node.shownAspect o (node.computedAspect o) = o.displayed)
      ∧ node.fp.outputs.length < 62 := by
  refine ⟨fun m o h _ => ?_, by decide⟩
  match m, h with
  | 1, h => cases h; decide
  | 2, h => cases h; decide

/-- The bus 1001 at the front of lane 1 is called away by a dig, its exchange 1 won by another node. -/
def calledAway : State :=
  { withLane (lane 39 [entry 1001 3]) (holding 3 { bus 1001 .parked with shunt := true } node) with
    xe := { node.xe with exchanges := [exchange .handover] } }

/-- The node on a lost line. -/
def onLostLine (s : State) : State := { s with lif := { s.lif with lineState := .lost } }

theorem witness_LaneIsHeldAndOpened_aspects :
    ({ lane 39 [] with state := .held } : Lane).state = .held ∧ (lane 39 []).entries = []
    ∧ (lane 39 []).state ≠ .held
    ∧ ({ entry 1001 3 with kind := .outbound } : Entry).kind = .outbound
    ∧ ({ entry 1001 3 with kind := .untracked } : Entry).kind = .untracked
    ∧ (awarded.record 3 = some { bus 1001 .awarded with award := some (7, 40) }
      ∧ (entry 1001 3).kind = .tracked 3 ∧ (lane 39 [entry 1001 3]).entries = entry 1001 3 :: [])
    ∧ (calledAway.record 3 = some { bus 1001 .parked with shunt := true } ∧ exchange .handover ∈ calledAway.xe.exchanges
      ∧ (exchange .handover).record = 3 ∧ (exchange .handover).state = .handover ∧ (exchange .handover).closing = false)
    ∧ (parked.record 3 = some (bus 1001 .parked) ∧ (bus 1001 .parked).place ≠ .awarded ∧ (bus 1001 .parked).shunt = false)
    ∧ node.lif.lineState ≠ .lost ∧ node.lif.lineState ≠ .offline ∧ (onLostLine node).lif.lineState = .lost
    ∧ (awarded.lane 1 = some (lane 39 [entry 1001 3])
      ∧ awarded.shownAspect (lane 39 [entry 1001 3]) (awarded.computedAspect (lane 39 [entry 1001 3])) ≠ .stop)
    ∧ (parked.lane 1 = some (lane 39 [entry 1001 3])
      ∧ parked.shownAspect (lane 39 [entry 1001 3]) (parked.computedAspect (lane 39 [entry 1001 3])) = .stop) := by
  decide

/-- R36: the front of a dig lane shows SHUNT while its exchange is in HANDOVER; R37: in LOST the lane goes on as it displayed,
or shows STOP by its fallback. -/
theorem test_displayed_aspect_follows_the_line :
    (calledAway.computedAspect (lane 39 [entry 1001 3]) = .shunt
      ∧ calledAway.shownAspect (lane 39 [entry 1001 3]) .shunt = .shunt)
    ∧ (onLostLine calledAway).shownAspect { lane 39 [] with displayed := .go } .shunt = .go
    ∧ (onLostLine calledAway).shownAspect { lane 39 [] with displayed := .go, fallback := .stop } .shunt = .stop := by
  decide

theorem witness_CensusReplacesTheList :
    node.receives ∧ node.lane 1 = some (lane 39 [])
      ∧ readLines [(1001, 0), (1002, 1)] = some [(1001, .std), (1002, .art)]
      ∧ (([(1001, .std), (1002, .art)] : List (Nat × LengthClass)).map (·.1)).Nodup
        ∧ node.censusBarred 1 (lane 39 []) = false
      ∧ ([(1001, .std), (1002, .art)] : List (Nat × LengthClass)).length ≤ 12
      ∧ node.censusUnits (lane 39 []) [(1001, .std), (1002, .art)] ≤ (lane 39 []).length :=
  ⟨node_receives, by decide⟩

/-- An entry of a bus that leaves. -/
def leaving : Entry := { fleet := 3003, units := 2, kind := .outbound, unconfirmed := true }

/-- Lane 1 with the bus 1001, the bus 2002, and a bus that leaves. -/
def censused : State := withLane (lane 39 [leaving, entry 2002 4, entry 1001 3]) twoParked

/-- A census of lane 1: the bus 1001, the leaving one, and one not known. -/
def listed : List (Nat × LengthClass) := [(1001, .std), (3003, .std), (4004, .art)]

theorem witness_CensusReplacesTheList_records :
    censused.receives ∧ censused.lane 1 = some (lane 39 [leaving, entry 2002 4, entry 1001 3])
      ∧ readLines [(1001, 0), (3003, 0), (4004, 1)] = some listed ∧ (listed.map (·.1)).Nodup
      ∧ censused.censusBarred 1 (lane 39 [leaving, entry 2002 4, entry 1001 3]) = false ∧ listed.length ≤ 12
      ∧ censused.censusUnits (lane 39 [leaving, entry 2002 4, entry 1001 3]) listed ≤ 9
      ∧ (∀ e ∈ [leaving, entry 2002 4, entry 1001 3], ∀ i, e.kind = .tracked i →
          ∃ r, censused.record i = some r ∧ r.fleet = e.fleet)
      ∧ censused.rs.store.length = 96 ∧ censused.recordCount + listed.length ≤ 96
      ∧ censused.findFleet 1001 = some 3 ∧ censused.record 3 = some (bus 1001 .parked)
      ∧ censused.findFleet 3003 = none
      ∧ [leaving, entry 2002 4, entry 1001 3].find? (fun x => x.fleet = 3003) = some leaving ∧ leaving.kind = .outbound
      ∧ censused.findFleet 4004 = none
      ∧ (∀ e ∈ [leaving, entry 2002 4, entry 1001 3], e.fleet = 4004 → e.kind ≠ .outbound)
      ∧ (entry 2002 4).kind = .tracked 4 ∧ (∀ line ∈ listed, line.1 ≠ (entry 2002 4).fleet) := by
  refine ⟨node_receives, by decide, by decide, by decide, by decide, by decide, by decide, fun e he i hi => ?_, by decide⟩
  rcases List.mem_cons.mp he with rfl | he
  · cases hi
  · rcases List.mem_cons.mp he with rfl | he
    · cases hi; exact ⟨_, rfl, rfl⟩
    · obtain rfl := List.mem_singleton.mp he; cases hi; exact ⟨_, rfl, rfl⟩

/-- The lane 1 of the node in DIG. -/
def digging : State := withLane { lane 39 [] with state := .dig } node

theorem witness_GateAndLaneMessagesAreRefused_gate :
    (State.reset.receives ∧ State.reset.iu.gatePresent = false) ∧ (node.receives ∧ readRawTag (tag 10000) = none)
    ∧ (node.receives ∧ node.iu.gatePresent = true ∧ readRawTag (tag 1001) = some (readTagOf 1001)
      ∧ 61 < ({ node.fp with outputs := List.replicate 62 (.barrier true) } : FieldPort).outputs.length) :=
  ⟨⟨by unfold State.receives; decide, by decide⟩, ⟨node_receives, by decide⟩, ⟨node_receives, by decide⟩⟩

theorem witness_GateAndLaneMessagesAreRefused_lanes :
    node.receives ∧ node.lane 7 = none ∧ (node.lane 1 = some (lane 39 []) ∧ (lane 39 []).hasReader 1 = false)
      ∧ readRawTag (tag 0) = none ∧ fleetOk 0 = false
      ∧ (digging.lane 1 = some { lane 39 [] with state := .dig }
        ∧ ({ lane 39 [] with state := .dig } : Lane).state = .dig) :=
  ⟨node_receives, by decide⟩

theorem witness_GateAndLaneMessagesAreRefused_census :
    node.receives ∧ readLines [(0, 0)] = none
    ∧ (readLines [(1, 0), (1, 0)] = some [(1, .std), (1, .std)]
      ∧ ¬ (([(1, .std), (1, .std)] : List (Nat × LengthClass)).map (·.1)).Nodup)
    ∧ (inbound.lane 1 = some { lane 39 [] with allocs := [{ record := 3, units := 2 }] }
      ∧ ({ lane 39 [] with allocs := [{ record := 3, units := 2 }] } : Lane).allocs ≠ [])
    ∧ (readLines [(1, 1), (2, 1), (3, 1), (4, 1)] = some [(1, .art), (2, .art), (3, .art), (4, .art)]
      ∧ (lane 39 []).state ≠ .dig ∧ (lane 39 []).allocs = [] ∧ node.reservedUnits 1 = []
      ∧ (lane 39 []).length < node.censusUnits (lane 39 []) [(1, .art), (2, .art), (3, .art), (4, .art)]) :=
  ⟨node_receives, by decide⟩

theorem witness_GateAndLaneMessagesAreRefused_direction : node.receives ∧ 2 ≤ 2 := ⟨node_receives, by decide⟩

theorem witness_ApproachReadIsHandledByPlace :
    (toPoint.receives ∧ toPoint.ts.kind.isSome = true ∧ fleetOk 10000 = false)
    ∧ (fleetOk 1002 = true ∧ toPoint.findFleet 1002 = none)
    ∧ (fleetOk 1001 = true ∧ toPoint.findFleet 1001 = some 3
      ∧ toPoint.record 3 = some { bus 1001 .enRoute with destination := some (.point .fuel), placeTimer := some 9 })
    ∧ (granted.findFleet 1001 = some 3 ∧ granted.record 3 = some (bus 1001 .granted)
      ∧ PlaceState.granted ∈ [.queued, .granted, PlaceState.inService])
    ∧ (parked.findFleet 1001 = some 3 ∧ parked.record 3 = some (bus 1001 .parked)
      ∧ PlaceState.parked ∉ [.queued, .granted, PlaceState.inService]) :=
  ⟨⟨node_receives, by decide⟩, by decide⟩

theorem witness_StartsPutTheStationInService :
    (granted.receives
      ∧ (fun st : Station => granted.station 1 = some st ∧ st.state = .granted ∧ granted.stationOf 3 = some (1, st)
        ∧ st.record = some 3 ∧ granted.serveable st 3 = true)
        { station with state := .granted, record := some 3, fleet := 1001, level := some 3, timer := some 9 }
      ∧ fleetOk 1001 = true ∧ granted.startNames 1001 = some 3 ∧ granted.record 3 = some (bus 1001 .granted))
    ∧ ((fun s : State => s.receives ∧ s.station 1 = some station ∧ station.state = .free ∧ s.stationOf 3 = none
        ∧ s.startNames 1001 = some 3 ∧ s.record 3 = some (bus 1001 .queued) ∧ s.requestLevel 3 = some 3
        ∧ s.serveable station 3 = true) (withRequest 3 (holding 3 (bus 1001 .queued) node)))
    ∧ (node.receives ∧ node.station 1 = some station ∧ station.state = .free ∧ fleetOk 1002 = true
      ∧ node.startNames 1002 = none) :=
  ⟨⟨node_receives, by decide⟩, ⟨node_receives, by decide⟩, ⟨node_receives, by decide⟩⟩

/-- The bus 1001 is GRANTED at the station, and the bus 2002 QUEUED. -/
def twoAtPoint : State := { withRequest 4 (holding 4 (bus 2002 .queued) granted) with
    ts := { (withRequest 4 granted).ts with opened := false } }

theorem witness_StartsPutTheStationInService_wrong_bus :
    (fun st : Station => twoAtPoint.receives ∧ twoAtPoint.station 1 = some st ∧ st.state = .granted ∧ st.record = some 3
      ∧ 3 ≠ 4 ∧ fleetOk 2002 = true ∧ twoAtPoint.startNames 2002 = some 4 ∧ twoAtPoint.record 4 = some (bus 2002 .queued)
      ∧ twoAtPoint.serveable st 4 = true ∧ twoAtPoint.record 3 = some (bus 1001 .granted)
      ∧ (bus 1001 .granted).place = .granted ∧ (bus 1001 .granted).serviceClass < 8 ∧ twoAtPoint.ts.levels.length = 8
      ∧ twoAtPoint.ts.opened = false)
      { station with state := .granted, record := some 3, fleet := 1001, level := some 3, timer := some 9 } :=
  ⟨node_receives, by decide⟩

theorem witness_StartsPutTheStationInService_en_route :
    toPoint.receives ∧ toPoint.station 1 = some station ∧ toPoint.stationOf 3 = none ∧ toPoint.startNames 1001 = some 3
      ∧ toPoint.record 3 = some { bus 1001 .enRoute with destination := some (.point .fuel), placeTimer := some 9 }
      ∧ toPoint.serveable station 3 = true ∧ toPoint.requestLevel 3 = none ∧ 3 = (bus 1001 .enRoute).serviceClass
      ∧ toPoint.fp.outputs.length < 62 :=
  ⟨node_receives, by decide⟩

/-- The bus 1001 is GRANTED at station 2, and station 1 is FREE. -/
def grantedElsewhere : State := { granted with ts := { granted.ts with stations := station :: granted.ts.stations } }

theorem witness_StartsPutTheStationInService_granted :
    (fun sm : Station => grantedElsewhere.receives ∧ grantedElsewhere.station 1 = some station
      ∧ grantedElsewhere.startNames 1001 = some 3 ∧ grantedElsewhere.record 3 = some (bus 1001 .granted)
      ∧ grantedElsewhere.stationOf 3 = some (2, sm) ∧ grantedElsewhere.serveable station 3 = true ∧ sm.level = some 3)
      { station with state := .granted, record := some 3, fleet := 1001, level := some 3, timer := some 9 } :=
  ⟨node_receives, by decide⟩

theorem witness_StartsPutTheStationInService_foreign_at_granted :
    (fun st : Station => granted.receives ∧ granted.station 1 = some st ∧ st.state = .granted ∧ st.record = some 3
      ∧ fleetOk 1002 = true ∧ granted.startNames 1002 = none ∧ granted.record 3 = some (bus 1001 .granted)
      ∧ (bus 1001 .granted).place = .granted ∧ (bus 1001 .granted).serviceClass < 8 ∧ granted.ts.levels.length = 8)
      { station with state := .granted, record := some 3, fleet := 1001, level := some 3, timer := some 9 } :=
  ⟨node_receives, by decide⟩

theorem witness_TurnEndWritesTheOutcome :
    (serving.receives ∧ serving.ts.kind = some .fuel
      ∧ (fun st : Station => serving.station 1 = some st ∧ st.state = .inService ∧ st.record = some 3
          ∧ st.level.getD 0 = 3)
        { station with state := .inService, record := some 3, fleet := 1001, level := some 3, timer := some 9
                       energyBefore := some 95 }
      ∧ serving.record 3 = some (bus 1001 .inService) ∧ serving.requestLevel 3 = none
      ∧ readStationEnd 0 = some .normal ∧ readStationEnd 2 = some .stationFault
      ∧ (bus 1001 .inService).shunt = false ∧ serving.exchangeOf 3 = none ∧ serving.du.digs = []
      ∧ serving.freeExchangeId = some 0)
    ∧ (serving.ts.rotating = false ∧ ({ serving.ts with rotating := true } : TurnScheduler).rotating = true
      ∧ serving.ts.order = [0, 1, 2] ++ 3 :: [4, 5, 6, 7] ∧ 3 ∉ [0, 1, 2] ∧ 3 ∉ [4, 5, 6, 7]) :=
  ⟨⟨node_receives, by decide⟩, by decide⟩

/-- A HELD reservation of a queue place. -/
def placeHeld : Reservation := { berthHeld with kind := .fuel, resource := .place .fuel .d }

/-- The node `serving` with its queue full of reserved places. -/
def servingFull : State :=
  { serving with xe := { node.xe with reservations := List.replicate 16 placeHeld } }

/-- R120: a turn that ends in a station fault is retried where a place is free, and served with RETRY_NO_PLACE where none is. -/
theorem test_station_fault_needs_a_queue_place :
    (fun s : State => s.ts.retryOrder = [(3, 3)] ∧ (s.record 3).map (·.place) = some .queued
      ∧ (s.record 3).map (·.retries) = some 1) (after (.stationEnd 1 1001 2 255) serving)
    ∧ (fun s : State => s.ts.retryOrder = [] ∧ (s.record 3).map (·.place) = some .served
      ∧ { report := .retryNoPlace 1001, tag := 0 } ∈ s.fp.reports) (after (.stationEnd 1 1001 2 255) servingFull) := by
  decide

/-- The retry limit and the queue allow a retry; the limit does not; the queue alone does not. -/
theorem witness_TurnEndWritesTheOutcome_retry :
    ((bus 1001 .inService).retries < serving.ts.retryLimit ∧ serving.queuePlaces < 16
      ∧ ({ serving.ts with opened := false } : TurnScheduler).opened = false)
    ∧ serving.ts.retryLimit ≤ ({ bus 1001 .inService with retries := 1 } : Rec).retries
    ∧ (servingFull.record 3 = some (bus 1001 .inService) ∧ (bus 1001 .inService).retries < servingFull.ts.retryLimit
      ∧ 16 ≤ servingFull.queuePlaces ∧ servingFull.fp.reports.length < 30) := by decide

theorem witness_ClearedStationIsFree :
    (fun s : State => s.receives ∧ s.station 1 = some { station with state := .fault }
      ∧ ({ station with state := .fault } : Station).state
        = .fault) (withStation { station with state := .fault } node) :=
  ⟨node_receives, by decide⟩

/-- A QUEUED record of the retry order, and one of level 3. -/
def waiting : State :=
  { withRequest 4 (holding 4 (bus 2002 .queued) (holding 3 (bus 1001 .queued) node)) with
    ts := { (withRequest 4 node).ts with retryOrder := [(3, 2)] } }

theorem witness_ClearedStationIsFree_choice :
    (waiting.ts.retryOrder = [] ++ (3, 2) :: [] ∧ 2 ∉ waiting.ts.heldLevels
      ∧ (waiting.recordIs 3 .queued && (waiting.record 3).any fun r => waiting.serves station r.fuel) = true)
    ∧ (fun p : Part => (∀ q ∈ p.ts.retryOrder, q.2 ∈ p.ts.heldLevels)
      ∧ p.ts.order = [0, 1, 2] ++ 3 :: [4, 5, 6, 7] ∧ 3 ∉ p.ts.heldLevels ∧ p.ts.levels[3]? = some ([] ++ 4 :: [])
      ∧ (p.recordIs 4 .queued && (p.record 4).any fun r => p.serves station r.fuel) = true
      ∧ ∀ m ∈ [0, 1, 2], p.ts.levels.getD m [] = [])
      { waiting.toPart with ts := { waiting.ts with heldLevels := [2] } }
    ∧ ((∀ q ∈ node.ts.retryOrder, q.2 ∈ node.ts.heldLevels)
      ∧ ∀ m ∈ node.ts.order, m ∈ node.ts.heldLevels ∨ ∀ j ∈ node.ts.levels.getD m [], False)
    ∧ (waiting.station 1 = some station ∧ station.state = .free ∧ waiting.choose station = some (3, 2)
      ∧ waiting.record 3 = some (bus 1001 .queued) ∧ waiting.fp.outputs.length < 62)
    ∧ (node.station 1 = some station ∧ node.choose station = none) :=
  ⟨by decide, by decide, ⟨nofun, by decide⟩, by decide, by decide⟩

theorem witness_PointAndLevelCommandsAct :
    node.receives ∧ node.ts.kind.isSome = true ∧ node.ts.opened = true ∧ min 9 7 ∉ node.ts.heldLevels
      ∧ ({ node.ts with opened := false } : TurnScheduler).opened = false
      ∧ min 9 7 ∈ ({ node.ts with heldLevels := [7] } : TurnScheduler).heldLevels :=
  ⟨node_receives, by decide⟩

theorem witness_NextNamesTheChoice :
    node.receives ∧ node.ts.kind = some .fuel
      ∧ ({ node.ts with kind := some .wash } : TurnScheduler).kind = some .wash :=
  ⟨node_receives, by decide⟩

theorem witness_GrantLimitLapses :
    (granted.ts.kind = some .fuel
      ∧ (fun st : Station => granted.station 1 = some st ∧ st.state = .granted ∧ st.record = some 3 ∧ st.timer = some 9)
        { station with state := .granted, record := some 3, fleet := 1001, level := some 3, timer := some 9 }
      ∧ granted.record 3 = some (bus 1001 .granted) ∧ granted.requestLevel 3 = none ∧ (bus 1001 .granted).lapses = 0)
    ∧ ((holding 3 { bus 1001 .granted with lapses := 1 } granted).record 3 = some { bus 1001 .granted with lapses := 1 }
      ∧ 1 ≤ ({ bus 1001 .granted with lapses := 1 } : Rec).lapses) := by decide

/-- A foreign turn at the station. -/
def foreign : State :=
  withStation { station with state := .inService, fleet := 4004, startTag := 60, timer := some 9 } node

/-- A message that names another bus than the station carries; an end at a station that is FREE, GRANTED or FAULT; an end of a
foreign turn, on an OPEN point and on a CLOSED one. -/
theorem witness_TurnEndWritesTheOutcome_stray_and_foreign :
    (1001 = (1001 : Nat) ∧ (4004 : Nat) ≠ 1001)
    ∧ (node.receives ∧ node.station 1 = some station ∧ station.state ≠ .inService ∧ readStationEnd 0 = some .normal)
    ∧ (granted.receives ∧ ∃ st, granted.station 1 = some st ∧ st.state ≠ .inService)
    ∧ (foreign.receives ∧ readStationEnd 1 = some .busFault ∧ readStationEnd 2 = some .stationFault
      ∧ foreign.ts.opened = true ∧ ({ foreign.ts with opened := false } : TurnScheduler).opened = false
      ∧ foreign.fp.outputs.length < 62
      ∧ ∃ st, foreign.station 1 = some st ∧ st.state = .inService ∧ st.record = none ∧ st.timer = some 9) :=
  ⟨by decide, ⟨node_receives, by decide⟩, ⟨node_receives, _, rfl, by decide⟩,
   ⟨node_receives, by decide, by decide, by decide, by decide, by decide, _, rfl, by decide⟩⟩

theorem witness_GrantLimitLapses_granted : (bus 1001 .granted).place = .granted := rfl

theorem witness_OverrunLimitFaultsTheStation :
    serving.ts.kind = some .fuel
      ∧ (fun st : Station => serving.station 1 = some st ∧ st.state = .inService ∧ st.timer = some 9)
        { station with state := .inService, record := some 3, fleet := 1001, level := some 3, timer := some 9
                       energyBefore := some 95 } := by decide

theorem witness_OverrunLimitFaultsTheStation_retry :
    serving.record 3 = some (bus 1001 .inService)
    ∧ ((bus 1001 .inService).retries < serving.ts.retryLimit ∧ serving.queuePlaces < 16)
    ∧ serving.ts.retryLimit ≤ ({ bus 1001 .inService with retries := 1 } : Rec).retries
    ∧ (servingFull.ts.kind = some .fuel ∧ (bus 1001 .inService).retries < servingFull.ts.retryLimit
      ∧ 16 ≤ servingFull.queuePlaces ∧ servingFull.fp.reports.length < 30) := by decide

theorem witness_ServicePointMessagesAreRefused :
    (State.reset.receives ∧ State.reset.ts.kind = none) ∧ (node.receives ∧ node.station 2 = none)
    ∧ (node.receives ∧ fleetOk 0 = false ∧ 2 < 3)
    ∧ (serving.receives ∧ (fun st : Station => serving.station 1 = some st ∧ st.state = .inService ∧ st.state ≠ .fault)
        { station with state := .inService, record := some 3, fleet := 1001, level := some 3, timer := some 9
                       energyBefore := some 95 } ∧ fleetOk 1001 = true)
    ∧ ((fun s : State => s.receives ∧ s.station 1 = some station ∧ station.state ≠ .fault ∧ station.state ≠ .inService
        ∧ s.startNames 1001 = some 3 ∧ s.serveable station 3 = false)
        (withRequest 3 (holding 3 { bus 1001 .queued with fuel := .g } node))) :=
  ⟨⟨by unfold State.receives; decide, by decide⟩, ⟨node_receives, by decide⟩, ⟨node_receives, by decide⟩,
   ⟨node_receives, by decide⟩, ⟨node_receives, by decide⟩⟩

/-- A slot call that the PARKED bus meets. -/
def slotCall : SlotCall :=
  { slot := 7, due := 1439, fuel := .d, lengthClass := .std, eMin := 50, washRequired := false, digAllowed := true }

/-- The only record of the state `parked` has energy 95. -/
theorem parked_energy (j : Nat) (r : Rec) (E : Nat) (h : parked.toPart.record j = some r) (he : r.energy = some E) :
    E ≤ 100 := by
  by_cases hj : j = 3
  · subst hj
    have h3 : parked.toPart.record 3 = some (bus 1001 .parked) := by decide
    obtain rfl : bus 1001 .parked = r := Option.some.inj (h3.symm.trans h)
    obtain rfl : 95 = E := Option.some.inj he
    decide
  · have hn : parked.toPart.record j = none := by
      have hs : parked.toPart.rs.store = (List.replicate 96 none).set 3 (some (bus 1001 .parked)) := rfl
      rw [Part.record, hs, List.getElem?_set_ne (Ne.symm hj), List.getElem?_replicate]
      split <;> rfl
    simp [hn] at h

/-- Both lanes of the state `parked` weigh 0. -/
theorem parked_weight (n : Nat) (l : Lane) (h : parked.toPart.lane n = some l) : l.weight ≤ 63 := by
  have hl : l ∈ [lane 39 [entry 1001 3], lane 40 []] := by
    rw [Part.lane] at h
    split at h
    · cases h
    · exact List.mem_of_getElem? h
  rcases List.mem_cons.mp hl with rfl | hl
  · decide
  · rcases List.mem_singleton.mp hl with rfl
    decide

theorem witness_BidCostIsTheDepartureCost :
    (∀ j r E, parked.toPart.record j = some r → r.energy = some E → E ≤ 100)
      ∧ (∀ n l, parked.toPart.lane n = some l → l.weight ≤ 63) ∧ parked.toPart.nameBid slotCall = some 3
      ∧ slotCall.valid = true
      ∧ ({ kind := .slot, caller := 9, callId := 1, limit := 1, content := some (.slot slotCall) } : WindowCall).content
          = some (.slot slotCall) :=
  ⟨parked_energy, parked_weight, by decide, by decide, rfl⟩

/-- An outcome with every field at the top of its range. -/
def topOutcome : TurnOutcome :=
  { service := .wash, station := 4, level := 7, startTag := some 86399, endTag := 86399, endKind := .lapsed
    retriesUsed := 2, energyBefore := some 100, energyAfter := none }

/-- An image with every field at the top of its range. -/
def topImage : Image :=
  { fleet := 9999, fuel := .unknown, lengthClass := .art, serviceClass := 7, energy := some 100, washDue := true
    washed := true, fuelSkipped := true, washSkipped := true, attempts := 3, age := 1023, outcome := some topOutcome }

theorem witness_ImagesAndCallsKeepTheirFields :
    topImage.InRange
    ∧ (fleetOk (bus 9999 .served).fleet = true ∧ (1 ≤ 2 ∧ 2 ≤ 2) ∧ (∀ k, (bus 9999 .served).energy = some k → k ≤ 100)
      ∧ ∀ k, some 255 = some k → 1 ≤ k ∧ k ≤ 255) := by
  refine ⟨⟨rfl, by decide, fun k h => ?_, by decide, by decide, fun o h => ?_⟩, rfl, by decide, fun k h => ?_,
    fun k h => ?_⟩
  · cases h; decide
  · cases h
    exact ⟨by decide, by decide, fun k h => by cases h; decide, by decide, by decide, fun k h => by cases h; decide,
      nofun⟩
  · cases h; decide
  · cases h; decide

theorem witness_TimeMarkIsAdopted :
    (frameFits 0 (frame 0 [1, 81, 127]).body = true ∧ (frame 0 [1, 81, 127]).flaw = false
      ∧ wordAt (frame 0 [1, 81, 127]).body 0 3 ≤ 86399 ∧ node.yc.isSet = false
      ∧ node.lif.lineState ≠ .offline ∧ node.lif.lineState ≠ .lost)
    ∧ (frameFits 0 (frame 0 [1, 81, 128]).body = true ∧ 86399 < wordAt (frame 0 [1, 81, 128]).body 0 3)
    ∧ ((fun c : YardClock => 2 ≤ dayDifference 0 c.seconds ∧ dayDifference 86399 c.seconds < 2 ∧ c.isSet = true)
        { node.yc with seconds := 86398, isSet := true })
    ∧ State.reset.lif.lineState = .offline := by decide

theorem witness_TimeMarkIsAdopted_lost : (inState .lost node).lif.lineState = .lost := rfl

theorem witness_DeliveredCallOpensTheWindow :
    node.Listens ∧ (frame 0 callBody).flaw = false ∧ (frame 0 callBody).addressee = 0
      ∧ frameFits 2 (frame 0 callBody).body = true ∧ frameFits 3 (frame 0 callBody).body = true
      ∧ frameFits 4 (frame 0 callBody).body = true
        ∧ frameFits 1 (frame 0 [1, 1, 0, 7, 0, 40, 0, 0, 50, 0]).body = true :=
  ⟨node_listens, by decide⟩

/-- The bus of `callBody`. -/
def calledBus : BusCall := { fleet := 2002, fuel := .d, lengthClass := .std, energy := some 95, excluded := none }

/-- The body of a SLOT CALL, exchange id 1: slot 7, due minute 40, fuel kind D, length class STD, from energy 50. -/
def slotBody (slot due : Nat) : List Nat := [1, 1, 0, slot, due / 256, due % 256, 0, 0, 50, 0]

theorem witness_BerthCallDrawsTheCheapestLane :
    node.Listens ∧ (frame 0 callBody).flaw = false ∧ (frame 0 callBody).addressee = 0
      ∧ decodeBusCall (frame 0 callBody).body = some calledBus
      ∧ frameFits 2 (frame 0 callBody).body = true ∧ node.lif.tx = none ∧ node.lif.claimAnswer = none
      ∧ node.reservation 9 1 = none ∧ node.recordCount < 96 ∧ node.xe.reservations.length < 4
      ∧ node.nameBerth calledBus = some 1 :=
  ⟨node_listens, by decide⟩

theorem witness_BerthCallDrawsTheCheapestLane_service :
    node.ts.kind = some .fuel ∧ node.ts.opened = true
      ∧ 1 ≤ (node.ts.stations.filter fun st => ServiceKind.fuel = .wash
          ∨ (st.fuel = some calledBus.fuel ∧ calledBus.fuel ≠ .unknown)).countP (fun st => st.state ≠ .fault)
      ∧ node.queuePlaces < 16 := by decide

theorem witness_BerthCallDrawsTheCheapestLane_slot :
    (parked.Listens ∧ parked.lif.tx = none ∧ parked.lif.claimAnswer = none ∧ parked.reservation 9 1 = none
      ∧ parked.recordCount < 96 ∧ parked.xe.reservations.length < 4
      ∧ (fun c : SlotCall => decodeSlotCall (frame 0 (slotBody 7 1439)).body = some c ∧ parked.awardOfSlot c.slot = none
          ∧ c.slot ≠ 0 ∧ c.due ≤ 1439 ∧ parked.nameBid c = some 3)
        { slotCall with digAllowed := false })
    ∧ (decodeSlotCall (frame 0 (slotBody 0 1439)).body = some { slotCall with slot := 0, digAllowed := false }
      ∧ ({ slotCall with slot := 0, digAllowed := false } : SlotCall).slot = 0)
    ∧ (decodeSlotCall (frame 0 (slotBody 7 1440)).body = some { slotCall with due := 1440, digAllowed := false }
      ∧ 1439 < ({ slotCall with due := 1440, digAllowed := false } : SlotCall).due
      ∧ (frame 0 (slotBody 7 1440)).node ≠ parked.lif.nodeNumber) :=
  ⟨⟨⟨rfl, nofun, rfl⟩, by decide⟩, by decide, by decide⟩

theorem witness_BerthCallDrawsTheCheapestLane_claim_answer :
    (fun s : State => s.Listens ∧ s.lif.claimAnswer ≠ none ∧ s.reservation 9 1 = none)
      { node with lif := { node.lif with claimAnswer := some 0 } } :=
  ⟨⟨rfl, nofun, rfl⟩, by decide⟩

theorem witness_BerthCallDrawsTheCheapestLane_cost :
    parked.toPart.lane 1 = some (lane 39 [entry 1001 3])
      ∧ (if (lane 39 [entry 1001 3]).type = .deadEnd then [entry 1001 3].head? else [entry 1001 3].getLast?)
        = some (entry 1001 3) ∧ (entry 1001 3).kind = .tracked 3 := by decide

theorem witness_WhereaboutsIsAnswered :
    parked.Listens ∧ (frame 0 [3, 233, 0, 50]).flaw = false ∧ (frame 0 [3, 233, 0, 50]).addressee = 0
      ∧ frameFits 5 (frame 0 [3, 233, 0, 50]).body = true
      ∧ (byteAt (frame 0 [3, 233, 0, 50]).body 2).testBit 0 = false
      ∧ parked.findFleet (wordAt (frame 0 [3, 233, 0, 50]).body 0 2) = some 3
        ∧ parked.record 3 = some (bus 1001 .parked)
      ∧ parked.inHandover 3 = false ∧ parked.answerOf 3 = none ∧ parked.xe.answers.length < 8 :=
  ⟨⟨rfl, nofun, rfl⟩, by decide⟩

/-- The window call of `withWindow`. -/
def berthWindow (caller : Nat) : WindowCall :=
  { kind := .berth, caller := caller, callId := 1, limit := 1, content := none }

theorem witness_OfferHeardClosesTheWindow :
    (fun s : State => s.lif.lineState = .active ∧ s.lif.window.cond = .opened
      ∧ s.lif.window.call = some (berthWindow 11)
      ∧ s.lif.tx = none ∧ (frame 0 [11, 1, 39]).flaw = false ∧ (frame 0 [11, 1, 39]).addressee = 0
      ∧ (frame 0 [11, 1, 39]).node ≠ s.lif.nodeNumber ∧ frameFits 6 (frame 0 [11, 1, 39]).body = true
      ∧ (berthWindow 11).caller ≠ s.lif.nodeNumber) (withWindow .opened 11 node)
    ∧ (fun s : State => s.lif.window.call = some (berthWindow 6)
      ∧ s.windowExchange (berthWindow 6) = some (exchange .window)
      ∧ offerForm (berthWindow 6).kind (frame 0 [6, 1, 39]).body = true ∧ s.du.digs = []
      ∧ (s.xe.exchanges.map (·.id)).Nodup)
      (withWindow .opened 6 (engine (bus 1001 .served) fun x => { x with exchanges := [exchange .window] })) := by decide

/-- An OPEN window of a BERTH CALL for `calledBus`, reopened so often. -/
def reopened (caller reopens : Nat) (s : State) : State :=
  { s with lif := { s.lif with window :=
    { cond := .opened, call := some { berthWindow caller with content := some (.bus calledBus) }, reopens := reopens } } }

/-- What node 6 offers `calledBus`. -/
def berthOffer : Offer := { resource := .berth 1 2, cost := 4160, item := 1, tail := [39] }

/-- Below the call's limit of one with an offer to make; with none, the table being full; at the limit, another node's call and an
own one. -/
theorem witness_OfferHeardClosesTheWindow_reopened :
    (fun s : State => (fun c : WindowCall => s.lif.window.call = some c ∧ s.lif.window.reopens < c.limit
        ∧ s.named c = some berthOffer ∧ s.refuses berthOffer.resource = false ∧ s.recordCount < 96
        ∧ s.xe.reservations.length < 4 ∧ s.lif.claimAnswer = none)
        { berthWindow 9 with content := some (.bus calledBus) }) (reopened 9 0 node)
    ∧ 4 ≤ (withEngine { node.xe with reservations := List.replicate 4 berthHeld } (reopened 9 0 node)).xe.reservations.length
    ∧ (fun s : State => (fun c : WindowCall => s.lif.window.call = some c ∧ c.limit ≤ s.lif.window.reopens
        ∧ s.windowExchange c = none) { berthWindow 9 with content := some (.bus calledBus) }) (reopened 9 1 node)
    ∧ (fun s : State => (fun c : WindowCall => s.lif.window.call = some c ∧ c.limit ≤ s.lif.window.reopens
        ∧ s.windowExchange c = some (exchange .window)) { berthWindow 6 with content := some (.bus calledBus) })
        (reopened 6 1 (engine (bus 1001 .served) fun x => { x with exchanges := [exchange .window] })) := by decide +kernel

/-- R51, R67: another station flaws the winning OFFER; the window is PENDING again, reopened once, and node 6 offers lane 1. -/
theorem test_failed_offer_reopens :
    (fun s : State => s.lif.window.cond = .pending ∧ s.lif.window.reopens = 1
      ∧ s.xe.reservations.map (·.resource) = [.berth 1 2] ∧ s.lif.tx.map (·.frame.body) = some (bytes [9, 1, 39]))
      (after (.offerReceived { frame 0 [11, 1, 39] with flaw := true }) (reopened 9 0 node)) := by decide +kernel

/-- A failed OFFER heard in an OPEN window: flawed, or addressed to another node and not acknowledged. -/
theorem witness_OfferHeardClosesTheWindow_failed :
    (fun s : State => s.lif.lineState = .active ∧ s.lif.window.cond = .opened ∧ s.lif.tx = none)
      (reopened 9 0 node)
    ∧ ({ frame 0 [11, 1, 39] with flaw := true } : RxFrame).flaw = true
    ∧ ((frame 5 [11, 1, 39]).ack = false ∧ (frame 5 [11, 1, 39]).addressee ≠ 0 ∧ (frame 5 [11, 1, 39]).addressee ≠ 6
      ∧ (frame 5 [11, 1, 39]).node ≠ 6 ∧ frameFits 6 (frame 5 [11, 1, 39]).body = true) := by decide

/-- The TRANSFER of the bus 2002 meets a HELD reservation. -/
theorem takes_transfer (v : Reservation) (h : v.is 9 1 = true) (held : v.held = true) (s : State) (hl : s.Listens)
    (hn : s.lif.nodeNumber = 6) (hr : s.xe.reservations = [v]) :
    s.TakesTransfer (frame 6 (1 :: imageBody)) (bus 2002 .served).image v where
  listens := hl
  unflawed := rfl
  addressed := by rw [hn]; rfl
  numbered := by rw [hn]; decide
  fits := by decide
  image := by decide
  reserved := by
    show s.xe.reservations.find? (Reservation.is 9 1) = some v
    rw [hr]; simp [h]
  held := held

/-- A TRANSFER meets a berth reservation, or one of a queue place. -/
theorem witness_TransferBecomesInbound :
    (fun s : State => s.TakesTransfer (frame 6 (1 :: imageBody)) (bus 2002 .served).image berthHeld
      ∧ berthHeld.resource = .berth 1 2 ∧ s.lane 1 = some (lane 39 []) ∧ s.findFleet (bus 2002 .served).image.fleet = none
      ∧ s.freeIndex = some 0) (withEngine { node.xe with reservations := [berthHeld] } node)
    ∧ (fun s : State => s.TakesTransfer (frame 6 (1 :: imageBody)) (bus 2002 .served).image placeHeld
      ∧ placeHeld.resource = .place .fuel .d ∧ s.findFleet (bus 2002 .served).image.fleet = none ∧ s.freeIndex = some 0)
      (withEngine { node.xe with reservations := [placeHeld] } node) :=
  ⟨⟨takes_transfer _ rfl rfl _ ⟨rfl, nofun, rfl⟩ rfl rfl, by decide⟩,
   ⟨takes_transfer _ rfl rfl _ ⟨rfl, nofun, rfl⟩ rfl rfl, by decide⟩⟩

/-- R70: a TRANSFER on a reservation of a queue place makes the bus EN_ROUTE to the point. -/
theorem test_transfer_to_the_point :
    (fun s : State => (s.record 0).map (fun r => (r.place, r.destination)) = some (.enRoute, some (.point .fuel))
      ∧ s.xe.reservations = [])
      (after (.transferReceived (frame 6 (1 :: imageBody))) (withEngine { node.xe with reservations := [placeHeld] } node)) := by
  decide +kernel

/-- The bus 2002 is held: PARKED, or LOOSE; and a remembered question about it, when it is not held. -/
theorem witness_TransferBecomesInbound_held :
    (fun s : State => s.TakesTransfer (frame 6 (1 :: imageBody)) (bus 2002 .served).image berthHeld
      ∧ s.findFleet (bus 2002 .served).image.fleet = some 3 ∧ s.record 3 = some (bus 2002 .parked)
      ∧ (bus 2002 .parked).place ∈ [PlaceState.intake, .parked, .awarded, .queued, .granted, .inService])
      (withEngine { node.xe with reservations := [berthHeld] } (holding 3 (bus 2002 .parked) node))
    ∧ (fun s : State => s.TakesTransfer (frame 6 (1 :: imageBody)) (bus 2002 .served).image placeHeld
      ∧ s.findFleet (bus 2002 .served).image.fleet = some 3 ∧ s.record 3 = some (bus 2002 .loose)
      ∧ (bus 2002 .loose).place ∈ [PlaceState.apron, .enRoute, .served, .loose] ∧ s.entryOf 3 = none
      ∧ s.stationOf 3 = none ∧ ∃ kind fuel, placeHeld.resource = .place kind fuel ∧ Destination.point .fuel = .point kind)
      (withEngine { node.xe with reservations := [placeHeld] } (holding 3 (bus 2002 .loose) node))
    ∧ (fun s : State => s.TakesTransfer (frame 6 (1 :: imageBody)) (bus 2002 .served).image berthHeld
      ∧ s.xe.memory = [{ fleet := 2002, asker := 3, gate := false, expiry := some 9 }] ∧ (3 : Nat) ≠ 9
      ∧ s.xe.answers = [] ∧ s.findFleet (bus 2002 .served).image.fleet = none ∧ s.freeIndex = some 0
      ∧ s.inHandover 0 = false)
      (withEngine { node.xe with reservations := [berthHeld]
                                 memory := [{ fleet := 2002, asker := 3, gate := false, expiry := some 9 }] } node) :=
  ⟨⟨takes_transfer _ rfl rfl _ ⟨rfl, nofun, rfl⟩ rfl rfl, by decide⟩,
   ⟨takes_transfer _ rfl rfl _ ⟨rfl, nofun, rfl⟩ rfl rfl, by decide, by decide, by decide, by decide, by decide,
    .fuel, .d, rfl, rfl⟩,
   ⟨takes_transfer _ rfl rfl _ ⟨rfl, nofun, rfl⟩ rfl rfl, by decide⟩⟩

theorem witness_AnswersCloseTheQuestion :
    (fun s : State => s.Listens ∧ (frame 6 ([3, 233] ++ imageBody.drop 2)).flaw = false
      ∧ (frame 6 ([3, 233] ++ imageBody.drop 2)).addressee = s.lif.nodeNumber ∧ s.lif.nodeNumber ≠ 0
      ∧ frameFits 8 (frame 6 ([3, 233] ++ imageBody.drop 2)).body = true
      ∧ decodeImage (frame 6 ([3, 233] ++ imageBody.drop 2)).body = some (bus 1001 .served).image
      ∧ s.questionAbout 1001 = some question ∧ s.record question.record = some (bus 1001 .loose))
      (engine (bus 1001 .loose) fun x => { x with questions := [question] })
    ∧ (fun s : State => s.Listens ∧ (frame 6 [3, 233]).flaw = false
      ∧ (frame 6 [3, 233]).addressee = s.lif.nodeNumber ∧ frameFits 9 (frame 6 [3, 233]).body = true
      ∧ s.questionAbout (wordAt (frame 6 [3, 233]).body 0 2) = some { question with state := .asked }
      ∧ s.record 3 = some (bus 1001 .loose))
      (engine (bus 1001 .loose) fun x => { x with questions := [{ question with state := .asked }] }) :=
  ⟨⟨⟨rfl, nofun, rfl⟩, by decide⟩, ⟨⟨rfl, nofun, rfl⟩, by decide⟩⟩

theorem witness_OtherFramesAreNotActedUpon :
    node.Listens ∧ (frame 0 []).flaw = false ∧ (frame 0 []).node ≠ node.lif.nodeNumber :=
  ⟨node_listens, by decide⟩

theorem witness_QueryEntersTheStatusList :
    (node.Listens ∧ (frame 6 [1, 0]).flaw = false ∧ frameFits 11 (frame 6 [1, 0]).body = true
      ∧ (frame 6 [1, 0]).addressee = node.lif.nodeNumber ∧ node.lif.nodeNumber ≠ 0 ∧ node.xe.statusList.length < 4
      ∧ { node := 9, part := 1, index := 0 } ∉ node.xe.statusList)
    ∧ (node.Listens ∧ frameFits 11 (frame 0 [1, 0]).body = true ∧ (frame 0 [1, 0]).addressee = 0) :=
  ⟨⟨node_listens, by decide⟩, ⟨node_listens, by decide⟩⟩

theorem witness_OwnNumberHeardIsAnsweredOrClashes :
    (node.Listens ∧ (ownFrame 0 [1, 2, 3, 0]).flaw = false ∧ (ownFrame 0 [1, 2, 3, 0]).node = node.lif.nodeNumber
      ∧ (ownFrame 0 [1, 2, 3, 0]).addressee = 0 ∧ frameFits 13 (ownFrame 0 [1, 2, 3, 0]).body = true
      ∧ (byteAt (ownFrame 0 [1, 2, 3, 0]).body 3).testBit 0 = false)
    ∧ (frameFits 13 (ownFrame 0 [1, 2, 3, 1]).body = true
      ∧ (byteAt (ownFrame 0 [1, 2, 3, 1]).body 3).testBit 0 = true) :=
  ⟨⟨node_listens, by decide⟩, by decide⟩

theorem witness_FlawedFrameIsCounted :
    0 < 14 ∧ 13 < 14 ∧ (fun s : State => s.Listens
      ∧ s.lif.consecutiveFlaws < 31) { node with lif := { node.lif with consecutiveFlaws := 30 } }
    ∧ (fun s : State => s.Listens
      ∧ 31 ≤ s.lif.consecutiveFlaws) { node with lif := { node.lif with consecutiveFlaws := 31 } }
    ∧ ((inState .joining node).lif.lineState = .joining ∧ (inState .joining node).lif.tx = none)
    ∧ ((inState .mute node).lif.lineState = .mute ∧ (inState .mute node).lif.tx = none) :=
  ⟨by decide, by decide, ⟨⟨rfl, nofun, rfl⟩, by decide⟩, ⟨⟨rfl, nofun, rfl⟩, by decide⟩, by decide, by decide⟩

/-- A frame that fails its check in an OPEN window: an OFFER, and one of another kind. -/
theorem witness_FlawedFrameIsCounted_window :
    (fun s : State => s.lif.lineState = .active ∧ s.lif.tx = none ∧ s.lif.window.cond = .opened
      ∧ s.lif.window.call = some { berthWindow 9 with content := some (.bus calledBus) } ∧ s.lif.consecutiveFlaws < 31)
      { reopened 9 0 node with lif := { (reopened 9 0 node).lif with consecutiveFlaws := 30 } }
    ∧ flawedKind (flawed 6) = 6 ∧ flawedKind (flawed 5) = 5 ∧ (5 : Nat) < 14 := by decide

theorem witness_SendingStarts :
    ((withTx (place .notice false) node).lif.tx = some (place .notice false) ∧ (place .notice false).sending = false
      ∧ (place .notice false).key ≠ .offer ∧ node.lif.lineState = .active
      ∧ (withTx (place .notice false) node).lif.window.cond = .closed)
    ∧ ((withTx (place .offer false) (withWindow .pending 9 node)).lif.window.cond = .pending
      ∧ (withTx (place .offer false) (withWindow .pending 9 node)).lif.tx = some (place .offer false))
    ∧ ((withWindow .pending 9 node).lif.window.cond = .pending
      ∧ ∀ t, (withWindow .pending 9 node).lif.tx = some t → t.key ≠ .offer) :=
  ⟨by decide, by decide, rfl, nofun⟩

theorem witness_SendingStarts_line :
    (withTx (place .notice false) node).lif.rx = [] ∧ (withWindow .pending 9 node).lif.gap < 13
    ∧ (withBits 0 1 [false] (withTx (place .notice false) node)).lif.rx ≠ [] := by decide

theorem witness_SendingStarts_failed_exchange :
    (fun s : State => s.lif.window.cond = .pending ∧ s.lif.tx = none ∧ s.lif.window.call = some (berthWindow 6)
      ∧ s.windowExchange (berthWindow 6) = some (exchange .window) ∧ (exchange .window).requester = .rs
      ∧ (exchange .window).id < 4 ∧ (∀ x ∈ s.xe.exchanges, x.record = 3 → x.id = 1)
      ∧ s.record 3 = some { bus 1001 .intake with lastCall := some .berth } ∧ s.rs.wantedOrder = [] ∧ s.du.digs = []
      ∧ s.iu.intake = some { record := 3, fleet := 1001 } ∧ s.fp.outputs.length ≤ 62)
      { withWindow .pending 6 (engine { bus 1001 .intake with lastCall := some .berth } fun x =>
          { x with exchanges := [exchange .window] }) with
        iu := { gatePresent := true, intake := some { record := 3, fleet := 1001 }, holdTimer := some 9 } } := by decide

theorem witness_SendingStarts_service_calls :
    (fun s : State => (fun c : WindowCall => (fun e : Exchange => s.lif.window.cond = .pending ∧ s.lif.tx = none
        ∧ s.lif.window.call = some c ∧ s.windowExchange c = some e ∧ (∀ x ∈ s.xe.exchanges, x.record = 3 → x.id = 1)
        ∧ s.record 3 = some { bus 1001 .served with lastCall := some .fuel, attempts := 2 } ∧ e.kind = .fuel
        ∧ s.rs.wantedOrder = [] ∧ s.du.digs = [] ∧ 3 ≤ 2 + 1) { exchange .window with kind := .fuel })
        { berthWindow 6 with kind := .fuel })
      { engine { bus 1001 .served with lastCall := some .fuel, attempts := 2 } fun x =>
          { x with exchanges := [{ exchange .window with kind := .fuel }] } with
        lif := { node.lif with window :=
          { cond := .pending, call := some { berthWindow 6 with kind := .fuel }, reopens := 0 } } } := by decide

theorem witness_ContentionAndEchoAreCounted :
    ((withTx (place .notice true) node).lif.tx = some (place .notice true) ∧ (place .notice true).sending = true
      ∧ (place .notice true).abandoned = false ∧ (place .notice true).key ≠ .offer
      ∧ (place .notice true).key ≠ .claim ∧ (place .notice true).key ≠ .claimAnswer)
    ∧ ((place .offer true).key = .offer ∧ (place .offer true).sending = true)
    ∧ ((place .claim true).key = .claim ∧ (place .claim true).sending = true) := by decide

theorem witness_ContentionAndEchoAreCounted_bits :
    ((withTx (place .notice true) node).lif.tx = some (place .notice true) ∧ (place .notice true).frame.bits.length = 75)
    ∧ 43 + 8 * (place .claim true).frame.body.length = 59
    ∧ node.lif.tx = none ∧ (place .notice false).sending = false := by decide +kernel

theorem witness_OwnFrameVerdictActs :
    (fun s : State => s.lif.lineState = .active ∧ s.lif.tx = some (place (.call 1) true)
      ∧ (place (.call 1) true).sending = true
      ∧ (place (.call 1) true).abandoned = false ∧ s.exchange 1 = some (exchange .called)
      ∧ (exchange .called).closing = false ∧ s.du.digs = [] ∧ (s.xe.exchanges.map (·.id)).Nodup)
      (withTx (place (.call 1) true) (engine (bus 1001 .served) fun x => { x with exchanges := [exchange .called] }))
    ∧ (fun s : State => (fun e : Exchange => s.lif.tx = some (place (.transfer 1) true) ∧ s.exchange 1 = some e
        ∧ e.closing = false ∧ e.gone = false ∧ e.winner = some { node := 9, item := 2, laneAlias := 39 }
        ∧ s.record e.record = some (bus 1001 .served))
        { exchange .handover with winner := some { node := 9, item := 2, laneAlias := 39 } })
      (withTx (place (.transfer 1) true) (engine (bus 1001 .served) fun x => { x with exchanges :=
        [{ exchange .handover with winner := some { node := 9, item := 2, laneAlias := 39 } }] }))
    ∧ (fun s : State => s.lif.lineState = .active ∧ s.lif.tx = some (place .notice true)
      ∧ s.lif.consecutiveFailures = 5)
      (withTx (place .notice true) { node with lif := { node.lif with consecutiveFailures := 5 } }) := by decide

/-- The node sends a frame while the record 3 stands SERVED after a BERTH call, and the Exchange Engine is as f makes it. -/
def sent (t : TxPlace) (f : ExchangeEngine → ExchangeEngine) : State :=
  withTx t (engine { bus 1001 .served with lastCall := some .berth } f)

/-- Every frame may be delivered, may fail its fifth time in a row, and may be abandoned at its sixth. -/
theorem witness_OwnFrameVerdictActs_slots (key : FrameKey) (f : ExchangeEngine → ExchangeEngine) :
    (sent (place key true) f).OwnFrameDelivered (place key true) { ack := true, flaw := false, rest := [] }
    ∧ (fun s : State => s.OwnFrameFailed (place key true) { ack := false, flaw := false, rest := [] }
      ∧ s.OwnFrameFailed (place key true) { ack := true, flaw := true, rest := [] })
      { sent (place key true) f with lif := { (sent (place key true) f).lif with consecutiveFailures := 4 } }
    ∧ (sent { place key true with abandoned := true } f).OwnFrameFailed { place key true with abandoned := true }
        { ack := true, flaw := true, rest := [true] }
    ∧ (fun s : State => s.lif.lineState = .active ∧ s.lif.tx = some { place key true with abandoned := true }
      ∧ s.lif.consecutiveFailures = 5)
      { sent { place key true with abandoned := true } f with
        lif := { (sent { place key true with abandoned := true } f).lif with consecutiveFailures := 5 } } :=
  ⟨⟨rfl, rfl, rfl, rfl, rfl, rfl⟩, ⟨⟨rfl, rfl, rfl, .inr (.inl rfl), Nat.lt_succ_self 4⟩,
   ⟨rfl, rfl, rfl, .inr (.inr rfl), Nat.lt_succ_self 4⟩⟩, ⟨rfl, rfl, rfl, .inl rfl, Nat.succ_pos 4⟩, rfl, rfl, rfl⟩

/-- The exchange 1 in HANDOVER with its winner. -/
def won : Exchange := { exchange .handover with winner := some { node := 9, item := 2, laneAlias := 39 } }

/-- A call and a TRANSFER at their first, second and third failure, and of a closed exchange. -/
theorem witness_OwnFrameVerdictActs_exchanges :
    (fun s : State => s.exchange 1 = some (exchange .called) ∧ (exchange .called).closing = false
      ∧ (exchange .called).callFailures < 2 ∧ ({ exchange .called with callFailures := 1 } : Exchange).callFailures < 2
      ∧ s.du.digs = [] ∧ s.rs.wantedOrder = []) (sent (place (.call 1) true) fun x => { x with exchanges := [exchange .called] })
    ∧ (fun s : State => (fun e : Exchange => s.exchange 1 = some e ∧ e.closing = false ∧ 2 ≤ e.callFailures
        ∧ e.requester = .rs ∧ e.id < 4 ∧ (∀ x ∈ s.xe.exchanges, x.record = e.record → x.id = e.id)
        ∧ s.record e.record = some { bus 1001 .served with lastCall := some e.kind } ∧ s.rs.wantedOrder = []
        ∧ s.du.digs = []) { exchange .called with callFailures := 2 })
      (sent (place (.call 1) true) fun x => { x with exchanges := [{ exchange .called with callFailures := 2 }] })
    ∧ ((sent (place (.call 1) true) fun x => { x with exchanges := [{ exchange .called with closing := true }] }).exchange 1
        = some { exchange .called with closing := true })
    ∧ (fun s : State => s.exchange 1 = some won ∧ won.closing = false ∧ won.transferFailures < 2 ∧ s.du.digs = [])
      (sent (place (.transfer 1) true) fun x => { x with exchanges := [won] })
    ∧ (fun s : State => s.exchange 1 = some { won with transferFailures := 2 }
      ∧ ({ won with transferFailures := 2 } : Exchange).winner = some { node := 9, item := 2, laneAlias := 39 })
      (sent (place (.transfer 1) true) fun x => { x with exchanges := [{ won with transferFailures := 2 }] }) := by decide

/-- A notice that waits. -/
def notice (failures : Nat) : QueuedNotice :=
  { notice := { fleet := 1001, slot := 7, laneAlias := 39, kind := .missed, tag := 0 }, failures := failures }

/-- A question, an answer and a notice at their second and their third failure, a claim's answer, a RELEASE and a HELD. -/
theorem witness_OwnFrameVerdictActs_lists :
    ((sent (place (.question 3) true) fun x => { x with questions := [{ question with failures := 1 }] }).questionOf 3
      = some { question with failures := 1 })
    ∧ (fun s : State => s.questionOf 3 = some { question with failures := 2 }
      ∧ s.record 3 = some { bus 1001 .served with lastCall := some .berth })
      (sent (place (.question 3) true) fun x => { x with questions := [{ question with failures := 2 }] })
    ∧ (sent (place (.answer 3) true) fun x => { x with answers := [{ waitingAnswer with failures := 1 }] }).answerOf 3
      = some { waitingAnswer with failures := 1 }
    ∧ (sent (place (.answer 3) true) fun x => { x with answers := [{ waitingAnswer with failures := 2 }] }).answerOf 3
      = some { waitingAnswer with failures := 2 }
    ∧ ((place (.answer 3) true).gone = false ∧ (place (.answer 3) true).stale = false
      ∧ (place (.answer 3) true).frame.kind ≠ 8
      ∧ ({ (place (.answer 3) true).frame with kind := 8 } : Frame).kind = 8)
    ∧ (sent (place .notice true) fun x => { x with notices := [notice 1] }).xe.notices = notice 1 :: []
    ∧ (sent (place .notice true) fun x => { x with notices := [notice 2] }).xe.notices = notice 2 :: []
    ∧ (parked.entryOf 3 = some (1, 0) ∧ parked.lane 1 = some (lane 39 [entry 1001 3])) := by decide

/-- An OFFER fails in its OPEN window, below the call's limit and at it; a claim's answer fails its second time and its third. -/
theorem witness_OwnFrameVerdictActs_window (slots : Slots) (h : slots.ack = false) :
    (∀ n, n = 0 ∨ n = 1 → (withTx (place .offer true) (reopened 9 n node)).OwnFrameFailed (place .offer true) slots
      ∧ (withTx (place .offer true) (reopened 9 n node)).lif.window.call
          = some { berthWindow 9 with content := some (.bus calledBus) }
      ∧ (withTx (place .offer true) (reopened 9 n node)).lif.window.reopens = n)
    ∧ ∀ n, (fun s : State => s.OwnFrameFailed (place .claimAnswer true) slots ∧ s.lif.claimAnswer = some n)
        (withTx (place .claimAnswer true) { node with lif := { node.lif with claimAnswer := some n } }) :=
  ⟨fun _ _ => ⟨⟨rfl, rfl, rfl, .inr (.inl h), Nat.succ_pos 4⟩, rfl, rfl⟩,
   fun _ => ⟨⟨rfl, rfl, rfl, .inr (.inl h), Nat.succ_pos 4⟩, rfl⟩⟩

/-- The window of a SLOT CALL of node 9 that the bid of record 3, PARKED at the front of lane 1, is about to win. -/
def bidding : State :=
  withTx (place .offer true) { parked with
    lif := { parked.lif with window :=
      { cond := .opened, reopens := 0
        call := some { kind := .slot, caller := 9, callId := 1, limit := 1
                       content := some (.slot { slot := 7, due := 40, fuel := .d, lengthClass := .std, eMin := 50
                                                washRequired := false, digAllowed := false }) } } }
    xe := { parked.xe with reservations :=
      [{ caller := 9, callId := 1, kind := .slot, resource := .bid 3 1001, held := false, timer := none }] } }

/-- An OFFER on another node's call is delivered: of a berth, and of a bid. -/
theorem witness_OwnFrameVerdictActs_offers :
    (fun s : State => s.OwnFrameDelivered (place .offer true) { ack := true, flaw := false, rest := [] }
      ∧ (place .offer true).frame.node = s.lif.nodeNumber ∧ s.lif.window.call = some (berthWindow 9)
      ∧ (berthWindow 9).caller ≠ s.lif.nodeNumber
      ∧ s.reservation 9 1 = some { berthHeld with held := false, timer := none } ∧ ∀ i fleet, berthHeld.resource ≠ .bid i fleet)
      (withTx (place .offer true) (withWindow .opened 9 (withEngine
        { node.xe with reservations := [{ berthHeld with held := false, timer := none }] } node)))
    ∧ (fun s : State => s.OwnFrameDelivered (place .offer true) { ack := true, flaw := false, rest := [] }
      ∧ s.reservation 9 1 = some { caller := 9, callId := 1, kind := .slot, resource := .bid 3 1001, held := false, timer := none }
      ∧ s.record 3 = some (bus 1001 .parked) ∧ (bus 1001 .parked).fleet = 1001 ∧ s.entryOf 3 = some (1, 0)
      ∧ s.lane 1 = some (lane 39 [entry 1001 3]) ∧ s.du.digs = [] ∧ s.answerOf 3 = none
      ∧ ∀ a ∈ s.du.awards, a.slot ≠ 7) bidding :=
  ⟨⟨⟨rfl, rfl, rfl, rfl, rfl, rfl⟩, rfl, rfl, by decide, by decide, nofun⟩,
   ⟨⟨rfl, rfl, rfl, rfl, rfl, rfl⟩, by decide, by decide, by decide, by decide, by decide, by decide, by decide, nofun⟩⟩

/-- The own call of record 3 that this node's OFFER is about to win, with lane 1 reserved. -/
def winning : State :=
  withTx (place .offer true) (withWindow .opened 6 (engine (bus 1001 .served) fun x =>
    { x with exchanges := [exchange .window]
             reservations := [{ berthHeld with caller := 6, held := false, timer := none }] }))

theorem witness_OwnFrameVerdictActs_local :
    winning.lif.lineState = .active ∧ winning.lif.tx = some (place .offer true)
      ∧ (place .offer true).frame.node = winning.lif.nodeNumber
      ∧ winning.lif.window.call = some (berthWindow 6) ∧ winning.windowExchange (berthWindow 6) = some (exchange .window)
      ∧ winning.reservation 6 1 = some { berthHeld with caller := 6, held := false, timer := none }
      ∧ winning.record 3 = some (bus 1001 .served) ∧ winning.rs.wantedOrder = [] ∧ winning.du.digs = []
      ∧ (∃ n l units, berthHeld.resource = .berth n units ∧ winning.lane n = some l ∧ Destination.lane 1 = .lane n) :=
  ⟨by decide, by decide, by decide, by decide, by decide, by decide, by decide, by decide, by decide,
   1, lane 39 [], 2, rfl, rfl, rfl⟩

theorem witness_OwnFrameVerdictActs_gate :
    (fun s : State => s.iu.intake = some { record := 3, fleet := 1001 } ∧ s.fp.outputs.length ≤ 62
      ∧ s.record 3 = some (bus 1001 .intake) ∧ (exchange .handover).requester = .rs)
      { engine (bus 1001 .intake) id with
        iu := { gatePresent := true, intake := some { record := 3, fleet := 1001 }, holdTimer := some 9 } } := by decide

theorem witness_JoiningLeadsToActiveOrClaiming :
    ((inState .joining node).lif.lineState = .joining ∧ (inState .joining node).lif.nodeNumber ≠ 0)
    ∧ ((inState .joining State.reset).lif.lineState = .joining ∧ (inState .joining State.reset).lif.nodeNumber = 0)
    ∧ (inState .lost node).lif.lineState = .lost
    ∧ (fun s : State => s.lif.lineState = .mute ∧ s.lif.standDown = some 0)
      (inState .mute { node with lif := { node.lif with standDown := some 0 } }) := by decide

theorem witness_LostLineIsFlagged : node.lif.lineState ≠ .offline ∧ node.lif.lineState ≠ .lost := by decide

/-- A node in CLAIMING with a claim state. -/
def claiming (c : Claim) : State := { node with lif :=
    { node.lif with lineState := .claiming, nodeNumber := 0, claim := c } }

theorem witness_ClaimTakesTheLowestNumber_lowest :
    (fun s : State => s.lif.lineState = .claiming ∧ s.lif.claim.number = none ∧ s.lif.claim.timer = some 0
      ∧ 1 ≤ 31 ∧ 31 ≤ 31 ∧ 31 ∉ s.lif.claim.heard ∧ 31 ∉ s.lif.claim.tried
      ∧ ∀ m, 1 ≤ m → m < 31 → m ∈ s.lif.claim.heard ∨ m ∈ s.lif.claim.tried)
      (claiming { Claim.empty with heard := List.range 31, timer := some 0 }) :=
  ⟨rfl, rfl, rfl, by decide, by decide, by decide, by decide, fun _ _ h => .inl (List.mem_range.mpr h)⟩

theorem witness_ClaimTakesTheLowestNumber_none_left :
    (fun s : State => s.lif.lineState = .claiming ∧ s.lif.claim.number = none ∧ s.lif.claim.timer = some 0
      ∧ ∀ m, 1 ≤ m → m ≤ 31 → m ∈ s.lif.claim.heard ∨ m ∈ s.lif.claim.tried)
      (claiming { Claim.empty with heard := List.range 32, timer := some 0 }) :=
  ⟨rfl, rfl, rfl, fun _ _ h => .inl (List.mem_range.mpr (Nat.lt_succ_of_le h))⟩

theorem witness_ClaimTakesTheLowestNumber_confirmed :
    (fun s : State => s.lif.lineState = .claiming ∧ s.lif.claim.number = some 3 ∧ s.lif.claim.timer = some 0)
      (claiming { Claim.empty with number := some 3, timer := some 0 }) := by decide

/-- A claim of number 3 that is being sent: delivered or not, flawed, abandoned, lost in the first and the last bit of its body;
and a frame of that number heard, the seventh and the eighth failure. -/
theorem witness_ClaimTakesTheLowestNumber_given_up :
    (fun s : State => s.lif.lineState = .claiming ∧ s.lif.tx = some (place .claim true) ∧ (place .claim true).key = .claim
      ∧ (place .claim true).sending = true ∧ (place .claim true).abandoned = false ∧ s.lif.claim.number = some 3
      ∧ 44 ≤ 43 + 8 * (place .claim true).frame.body.length)
      (withTx (place .claim true) (claiming { Claim.empty with number := some 3 }))
    ∧ ({ place .claim true with abandoned := true } : TxPlace).abandoned = true
    ∧ (fun s : State => s.lif.claim.number = some (frame 0 [1, 2, 3, 0]).node ∧ (frame 0 [1, 2, 3, 0]).flaw = false
      ∧ 1 ≤ (frame 0 [1, 2, 3, 0]).node ∧ (frame 0 [1, 2, 3, 0]).node ≤ 31
      ∧ frameFits 13 (frame 0 [1, 2, 3, 0]).body = true ∧ s.lif.claim.failed + 1 < 8)
      (claiming { Claim.empty with number := some 9, failed := 6 })
    ∧ 8 ≤ (claiming { Claim.empty with number := some 9, failed := 7 }).lif.claim.failed + 1 := by decide

/-- Below the eighth failure a number is left: the lowest of 1 to 31. -/
theorem witness_ClaimTakesTheLowestNumber_claims_again :
    (fun c : Claim => c.failed < 8 ∧ 1 ≤ 1 ∧ 1 ≤ 31 ∧ 1 ∉ c.heard ∧ 1 ∉ c.tried
      ∧ ∀ j, 1 ≤ j → j < 1 → j ∈ c.heard ∨ j ∈ c.tried)
      { heard := [9], tried := [9], number := none, failed := 7, timer := none } :=
  ⟨by decide, by decide, by decide, by decide, by decide, fun _ h h' => absurd h' (Nat.not_lt.mpr h)⟩

theorem witness_EngineTimersRunOut :
    (withEngine { node.xe with spacing := some 0 } node).xe.spacing = some 0
    ∧ (withEngine { node.xe with noticeWait := some 0 } node).xe.noticeWait = some 0
    ∧ (engine (bus 1001 .loose) fun x => { x with questions := [{ question with wait := some 0 }] }).questionOf 3
        = some { question with wait := some 0 }
    ∧ (engine (bus 1001 .loose) fun x => { x with answers := [waitingAnswer] }).answerOf 3 = some waitingAnswer
    ∧ ((fun s : State => s.lif.lineState = .active ∧ s.exchange 1 = some { exchange .pending with wait := some 0 })
        (engine (bus 1001 .served) fun x => { x with exchanges := [{ exchange .pending with wait := some 0 }] }))
    ∧ ((fun s : State => s.lif.lineState ≠ .active ∧ s.exchange 1 = some { exchange .pending with wait := some 0 }
        ∧ s.du.digs = [])
        (inState .joining (engine (bus 1001 .served) fun x => { x with exchanges :=
          [{ exchange .pending with wait := some 0 }] })))
    ∧ (withEngine { node.xe with reservations := [berthHeld] } node).reservation 9 1 = some berthHeld := by decide

theorem witness_UnansweredQuestionAdoptsTheBus :
    (fun s : State => (fun q : Question => s.questionOf 3 = some q ∧ q.state = .asked ∧ q.answerTimer = some 0
      ∧ s.record 3 = some (bus 1001 .loose)) { question with state := .asked, answerTimer := some 0 })
      (engine (bus 1001 .loose) fun x => { x with questions :=
        [{ question with state := .asked, answerTimer := some 0 }] }) := by
  decide

theorem witness_UnconfirmedPlacesExpire :
    inbound.record 3 = some { bus 1001 .enRoute with destination := some (.lane 1), placeTimer := some 9 }
    ∧ (holding 3 { bus 1001 .loose with placeTimer := some 0 } node).record 3
        = some { bus 1001 .loose with placeTimer := some 0 } := by decide

theorem witness_RepeatTimersAskAgain :
    (fun s : State => s.record 3 = some { bus 1001 .apron with repeatTimer := some 0, doubled := true }
      ∧ (bus 1001 .apron).shunt = false ∧ s.exchangeOf 3 = none ∧ s.freeExchangeId = some 0 ∧ s.du.digs = [])
      (holding 3 { bus 1001 .apron with repeatTimer := some 0, doubled := true } node)
    ∧ (bus 1001 .apron).doubled = false
    ∧ (holding 3 { bus 1001 .loose with doubled := true, repeatTimer := some 0 } node).record 3
        = some { bus 1001 .loose with doubled := true, repeatTimer := some 0 } := by decide

theorem witness_AwardAndDigLimitsEndThem :
    (awarded.awardOfSlot 7
        = some { slot := 7, due := 40, record := 3, fleet := 1001, lane := 1, mode := .direct, timer := some 9 }
      ∧ awarded.record 3 = some { bus 1001 .awarded with award := some (7, 40) } ∧ awarded.xe.notices.length < 8)
    ∧ (dug.digOf 1 = some dig ∧ dig.timer = some 0 ∧ dug.awardOfSlot dig.slot = some dugAward ∧ dugAward.mode = .digging
      ∧ dug.du.digs.find? (fun x => x.slot == dig.slot) = some dig
      ∧ dug.lane 1 = some { lane 39 [entry 1002 4, entry 1001 3] with state := .dig }
      ∧ dug.record dugAward.record = some { bus 1001 .awarded with award := some (7, 40) }
        ∧ dug.xe.notices.length < 8) := by
  decide

theorem witness_AwardAndDigLimitsEndThem_won :
    (parked.record 3 = some (bus 1001 .parked) ∧ parked.entryOf 3 = some (1, 0)
      ∧ parked.lane 1 = some (lane 39 [entry 1001 3]) ∧ parked.depth 3 = some 0)
    ∧ (twoParked.record 3 = some (bus 1001 .parked) ∧ twoParked.entryOf 3 = some (1, 1)
      ∧ twoParked.lane 1 = some (lane 39 [entry 2002 4, entry 1001 3]) ∧ twoParked.depth 3 = some 1
      ∧ slotCall.digAllowed = true ∧ (lane 39 []).state = .opened ∧ twoParked.lanesInDig < 2
      ∧ (∀ e ∈ [entry 2002 4, entry 1001 3].take 1, e.unconfirmed = false ∧ e.kind ≠ .untracked)
      ∧ (∀ a ∈ twoParked.du.awards, a.slot ≠ slotCall.slot) ∧ (twoParked.du.digs.all fun x => x.lane ≠ 1)
      ∧ twoParked.record 4 = some (bus 2002 .parked))
    ∧ (({ slotCall with digAllowed := false } : SlotCall).digAllowed = false ∧ twoParked.xe.notices.length < 8)
    ∧ (node.entryOf 3 = none ∧ node.xe.notices.length < 8 ∧ node.fp.reports.length < 31) :=
  ⟨by decide, ⟨by decide, by decide, by decide, by decide, by decide, by decide, by decide, by decide, nofun, by decide,
    by decide⟩, by decide, by decide⟩

/-- A DIRECT award of the bus 1001, behind the PARKED bus 2002. -/
def blocked : State :=
  { holding 3 { bus 1001 .awarded with award := some (7, 40) } twoParked with
    du := { awards := [{ dugAward with mode := .direct }], digs := [] } }

/-- The dig's target stands first. -/
def reached : State :=
  { withLane { lane 39 [entry 1001 3] with state := .dig }
      (holding 3 { bus 1001 .awarded with award := some (7, 40) } node) with
    du := { awards := [dugAward], digs := [dig] } }

theorem witness_AwardAndDigLimitsEndThem_review :
    (blocked.du.digs = [] ∧ blocked.du.awards.head? = some { dugAward with mode := .direct }
      ∧ blocked.depth 3 = some 1 ∧ 1 ≠ 0
      ∧ blocked.record 3 = some { bus 1001 .awarded with award := some (7, 40) } ∧ blocked.xe.notices.length < 8)
    ∧ (reached.du.digs.head? = some dig ∧ reached.entryOf dig.target = some (dig.lane, 0)
      ∧ reached.lane dig.lane = some { lane 39 [entry 1001 3] with state := .dig } ∧ reached.fp.reports.length < 32) := by
  decide

/-- The bus 1001 stands in lane 1, which is HELD, with a waiting award. -/
def heldAward : State :=
  { withLane { lane 39 [entry 1001 3] with state := .held }
      (holding 3 { bus 1001 .awarded with award := some (7, 40) } node) with
    du := { awards := [{ dugAward with mode := .direct }], digs := [] } }

/-- An award that waits, at a lane that displays GO and at one that does not, and one that runs. -/
theorem witness_AwardAndDigLimitsEndThem_start :
    ({ dugAward with mode := .direct } : Award).timer = none
    ∧ (withLane { lane 39 [entry 1001 3] with displayed := .go } heldAward).atGo { dugAward with mode := .direct } = true
    ∧ heldAward.atGo { dugAward with mode := .direct } = false
    ∧ ({ dugAward with timer := some 9 } : Award).timer ≠ none := by decide

theorem witness_AwardAndDigLimitsEndThem_opened :
    heldAward.receives ∧ heldAward.lane 1 = some { lane 39 [entry 1001 3] with state := .held }
      ∧ ({ lane 39 [entry 1001 3] with state := .held } : Lane).state ≠ .dig
      ∧ (lane 39 [entry 1001 3]).entries.head? = some (entry 1001 3) ∧ (entry 1001 3).kind = .tracked 3
      ∧ heldAward.record 3 = some { bus 1001 .awarded with award := some (7, 40) } ∧ heldAward.entryOf 3 = some (1, 0)
      ∧ { dugAward with mode := .direct } ∈ heldAward.du.awards ∧ heldAward.lif.lineState ≠ .lost
      ∧ (onLostLine heldAward).lif.lineState = .lost ∧ (lane 39 []).displayed ≠ .go
      ∧ (∃ a ∈ awarded.du.awards, a.timer ≠ none) :=
  ⟨node_receives, by decide, by decide, by decide, by decide, by decide, by decide, by decide, by decide, by decide,
    by decide, ⟨_, .head _, nofun⟩⟩

/-- R154: the waiting limit of a front award starts as its HELD lane is opened and displays GO, and not while the line is lost. -/
theorem test_award_limit_starts_at_go :
    (after (.laneOpen 1) heldAward).du.awards.map (·.timer) = [some 480000]
    ∧ (after (.laneOpen 1) (onLostLine heldAward)).du.awards.map (·.timer) = [none] := by decide

theorem witness_MinuteTickAgesStandingBuses :
    node.yc.isSet = false ∧ ({ node.yc with isSet := true } : YardClock).isSet = true ∧ State.reset.settings = none
      ∧ (∃ c, node.settings = some c ∧ c.timeSource = true) ∧ node.lif.lineState = .active
      ∧ (withTx (place .notice true) node).lif.tx ≠ none ∧ node.fp.reports.length < 32 :=
  ⟨by decide, rfl, rfl, ⟨_, rfl, rfl⟩, by decide, by decide, by decide⟩

end Sys2Proof.Tests
end

section
/-! How a field message that is processed and accepted is answered (R184, R185). -/

namespace Sys2Proof.Machine

/-- A free receive place, as the Field Port tests it. -/
theorem State.receives.receiveFull_eq_false {s : State} (h : s.receives) : s.receiveFull = false :=
  decide_eq_false (Nat.not_le_of_lt h)

/-- The reply of the Field Port is the only thing that an accepted message adds to the part as its block leaves it. -/
theorem perform_fieldMessage_of_accepted {s : State} {decide : Part → Decision} {payload : Payload} {q : Part} (kind : Nat)
    (hs : s.receives) (hd : decide s.toPart = .accepted payload q) :
    s.perform (fieldMessage kind decide) = .next ({ s with toPart := q }.replied kind none payload) := by
  have answered : fieldMessage kind decide s.toPart = addReply kind none payload q := by
    simp only [fieldMessage, hs.receiveFull_eq_false, hd, answerMessage, Bool.false_eq_true, if_false]
  rw [State.perform, answered]
  rfl

end Sys2Proof.Machine
end

section
/-! Exit reads of a lane (R23, R30). -/

namespace Sys2Proof.Machine

theorem exec_laneExitRead (n readerEnd fleet : Nat) (s : State) :
    exec (.laneExitRead n readerEnd fleet) s = s.perform (fieldMessage 3 (decideExitRead n readerEnd fleet)) := rfl

theorem any_fleet_eq_false {entries : List Entry} {fleet : Nat} (h : ∀ x ∈ entries, x.fleet ≠ fleet) :
    (entries.any fun x => x.fleet == fleet) = false :=
  List.any_eq_false.mpr fun x hx => by simpa using h x hx

/-- The last branch of R23's tests: a reader that the lane has, a fleet number in range, and no entry of that number. -/
theorem decideExitRead_of_not_listed {n readerEnd fleet : Nat} {l : Lane} {p : Part} (hl : p.lane n = some l)
    (hr : l.hasReader readerEnd = true) (hf : fleetOk fleet = true) (absent : ∀ x ∈ l.entries, x.fleet ≠ fleet) :
    decideExitRead n readerEnd fleet p = .accepted .none (unknownExit l readerEnd fleet p) := by
  simp [decideExitRead, hl, hr, hf, any_fleet_eq_false absent]

/-- Settles O23: the read is accepted with `unknownExit`, which is the report alone, and the reply is added. -/
theorem unknownExitOnlyReports : Obligations.UnknownExitOnlyReports := by
  intro n readerEnd fleet l s hs hl hr hf absent
  rw [exec_laneExitRead, perform_fieldMessage_of_accepted 3 hs (decideExitRead_of_not_listed hl hr hf absent)]
  rfl

end Sys2Proof.Machine
end

section
/-! What a NEXT answers (R110). -/

namespace Sys2Proof.Machine

theorem exec_nextRequest (s : State) :
    exec .nextRequest s = s.perform (fieldMessage 12 (withPoint fun p => .accepted (nextPayload p) p)) := rfl

theorem withPoint_of_kind {act : Part → Decision} {p : Part} {kind : ServiceKind} (h : p.ts.kind = some kind) :
    withPoint act p = act p := by
  simp [withPoint, h]

theorem exec_nextRequest_of_point {s : State} {kind : ServiceKind} (hs : s.receives) (hk : s.ts.kind = some kind) :
    exec .nextRequest s = .next (s.replied 12 none (nextPayload s.toPart)) := by
  rw [exec_nextRequest]
  exact perform_fieldMessage_of_accepted 12 hs (withPoint_of_kind hk)

/-- Resolution looks at a station only through the fuel kinds that it serves (R109). -/
theorem choose_congr {p : Part} {a b : Station} (h : p.serves a = p.serves b) : p.choose a = p.choose b := by
  have waits : p.waitsFor a = p.waitsFor b := by
    funext i
    simp only [Part.waitsFor, Part.serveable, h]
  simp only [Part.choose, Part.chooseRetry, Part.chooseLevel, waits]

theorem groupStations_of_fuel {p : Part} (h : p.ts.kind = some .fuel) (fuel : FuelKind) :
    p.groupStations fuel = p.ts.stations.filter fun st => st.fuel == some fuel := by
  simp [Part.groupStations, h]

theorem groupStations_of_wash {p : Part} (h : p.ts.kind = some .wash) (fuel : FuelKind) :
    p.groupStations fuel = if fuel = .d then p.ts.stations else [] := by
  simp [Part.groupStations, h]

theorem mem_groupStations_of_fuel {p : Part} (h : p.ts.kind = some .fuel) {fuel : FuelKind} {st : Station} :
    st ∈ p.groupStations fuel ↔ st ∈ p.ts.stations ∧ st.fuel = some fuel := by
  simp [groupStations_of_fuel h]

theorem serves_eq_of_mem_groupStations {p : Part} {fuel : FuelKind} {a b : Station} (ha : a ∈ p.groupStations fuel)
    (hb : b ∈ p.groupStations fuel) : p.serves a = p.serves b := by
  funext asked
  cases hk : p.ts.kind with
  | none => simp only [Part.serves, hk]
  | some kind =>
    cases kind with
    | wash => simp only [Part.serves, hk]
    | fuel =>
      obtain ⟨-, hfa⟩ := (mem_groupStations_of_fuel hk).mp ha
      obtain ⟨-, hfb⟩ := (mem_groupStations_of_fuel hk).mp hb
      simp only [Part.serves, hk, hfa, hfb]

/-- The model asks the group's first station; each other one would take the same record. -/
theorem nextOf_fleet_of_mem {s : State} {fuel : FuelKind} {st : Station} (h : st ∈ s.groupStations fuel) :
    (s.nextOf fuel).1 = chosenFleet s st := by
  obtain ⟨first, hfirst⟩ : ∃ first, (s.groupStations fuel).head? = some first :=
    ⟨_, List.head?_eq_some_head (List.ne_nil_of_mem h)⟩
  have same : s.choose first = s.choose st :=
    choose_congr (serves_eq_of_mem_groupStations (List.mem_of_head? hfirst) h)
  simp only [Part.nextOf, chosenFleet, hfirst, Option.bind_some, same] <;> rfl

theorem nextOf_of_empty {p : Part} {fuel : FuelKind} (h : p.groupStations fuel = []) : p.nextOf fuel = (0, 0) := by
  simp [Part.nextOf, h]

theorem nextOf_free_of_fuel {p : Part} (h : p.ts.kind = some .fuel) (fuel : FuelKind) :
    (p.nextOf fuel).2 = p.ts.stations.countP fun st => st.fuel = some fuel ∧ st.state = .free := by
  simp [Part.nextOf, groupStations_of_fuel h, List.countP_filter, and_comm, beq_eq_decide]

theorem nextOf_free_of_wash {p : Part} (h : p.ts.kind = some .wash) :
    (p.nextOf .d).2 = p.ts.stations.countP fun st => st.state = .free := by
  simp [Part.nextOf, groupStations_of_wash h, beq_eq_decide]

/-- The fleet number for a fuel kind that no station has (section 12.5). -/
theorem nextOf_fleet_of_no_station {p : Part} (h : p.ts.kind = some .fuel) {fuel : FuelKind}
    (absent : ∀ st ∈ p.ts.stations, st.fuel ≠ some fuel) : (p.nextOf fuel).1 = 0 := by
  rw [nextOf_of_empty (List.eq_nil_iff_forall_not_mem.mpr fun st hst => ?_)]
  obtain ⟨hmem, hfuel⟩ := (mem_groupStations_of_fuel h).mp hst
  exact absent st hmem hfuel

/-- Settles O32: at a FUEL point both groups answer for their stations; at a WASH point the D group holds all stations and the
G group none. -/
theorem nextNamesTheChoice : Obligations.NextNamesTheChoice := by
  intro s hs
  refine ⟨fun hfuel => ?_, fun hwash => ?_⟩
  · have named {fuel : FuelKind} (st : Station) (hst : st ∈ s.ts.stations) (hf : st.fuel = some fuel) :
        (s.nextOf fuel).1 = chosenFleet s st :=
      nextOf_fleet_of_mem ((mem_groupStations_of_fuel hfuel).mpr ⟨hst, hf⟩)
    refine ⟨(s.nextOf .d).1, (s.nextOf .g).1, ?_, named, named, nextOf_fleet_of_no_station hfuel,
      nextOf_fleet_of_no_station hfuel⟩
    rw [exec_nextRequest_of_point hs hfuel, nextPayload, nextOf_free_of_fuel hfuel, nextOf_free_of_fuel hfuel]
  · have groupD : s.groupStations .d = s.ts.stations := groupStations_of_wash hwash .d
    have groupG : s.groupStations .g = [] := groupStations_of_wash hwash .g
    refine ⟨(s.nextOf .d).1, ?_, fun st hst => nextOf_fleet_of_mem (groupD ▸ hst)⟩
    rw [exec_nextRequest_of_point hs hwash, nextPayload, nextOf_free_of_wash hwash, nextOf_of_empty groupG]

end Sys2Proof.Machine
end

section
/-! What a bid's bus is and costs (R145 to R148). -/

namespace Sys2Proof.Machine

theorem leastBy_mem {key : α → Nat} {items : List α} {a : α} (h : leastBy key items = some a) : a ∈ items := by
  induction items with
  | nil => cases h
  | cons first rest ih =>
    rw [leastBy] at h
    split at h
    · cases h
      exact .head _
    · next b hb =>
      split at h
      · exact .tail _ (ih (hb.trans h))
      · cases h
        exact .head _

theorem eligible_of_nameBid {p : Part} {c : SlotCall} {i : Nat} (h : p.nameBid c = some i) : p.eligible c i = true :=
  (List.mem_filter.mp (leastBy_mem h)).2

theorem fitsSlot_energy {c : SlotCall} {r : Rec} (h : r.fitsSlot c = true) : ∃ E, r.energy = some E ∧ c.eMin ≤ E := by
  cases hE : r.energy with
  | none => simp [Rec.fitsSlot, hE] at h
  | some E =>
    simp only [Rec.fitsSlot, hE, Bool.and_eq_true, decide_eq_true_eq] at h
    obtain ⟨⟨⟨⟨-, enough⟩, -⟩, -⟩, -⟩ := h
    exact ⟨E, rfl, enough⟩

theorem diggable_depth_le {p : Part} {i d : Nat} (h : p.diggable i d = true) : d ≤ 3 := by
  simp only [Part.diggable, Bool.and_eq_true, decide_eq_true_eq] at h
  obtain ⟨⟨⟨-, shallow⟩, -⟩, -⟩ := h
  exact shallow

/-- R146, condition by condition. -/
theorem eligible_iff {p : Part} {c : SlotCall} {i : Nat} : p.eligible c i = true ↔
    ∃ r n k l d, p.record i = some r ∧ p.entryOf i = some (n, k) ∧ p.lane n = some l ∧ p.depth i = some d
      ∧ r.fitsSlot c = true ∧ p.exchangeOf i = none ∧ p.awardPlaces < 8 ∧ l.state = .opened
      ∧ (d = 0 ∨ c.digAllowed = true ∧ p.diggable i d = true) := by
  cases hr : p.record i with
  | none => simp [Part.eligible, hr]
  | some r =>
    cases he : p.entryOf i with
    | none => simp [Part.eligible, hr, he]
    | some place =>
      obtain ⟨n, k⟩ := place
      cases hl : p.lane n with
      | none => simp [Part.eligible, hr, he, hl]
      | some l =>
        cases hd : p.depth i with
        | none => simp [Part.eligible, hr, he, hl, hd]
        | some d => simp [Part.eligible, hr, he, hl, hd, and_assoc]

theorem bidCost_eq {p : Part} {c : SlotCall} {i n k d E : Nat} {r : Rec} {l : Lane} (hr : p.record i = some r)
    (he : p.entryOf i = some (n, k)) (hl : p.lane n = some l) (hd : p.depth i = some d) (hE : r.energy = some E) :
    p.bidCost c i = departureCost d E c.eMin r.age l.weight := by
  simp [Part.bidCost, hr, he, hl, hd, hE]

/-- The ranges of R147's table, summed. -/
theorem departureCost_le {d E eMin age weight : Nat} (hd : d ≤ 3) (hE : E ≤ 100) (hw : weight ≤ 63) :
    departureCost d E eMin age weight ≤ 33439 := by
  unfold departureCost
  omega

theorem named_slot {p : Part} {c : SlotCall} {w : WindowCall} {i : Nat} (hw : w.content = some (.slot c))
    (hc : c.valid = true) (hi : p.nameBid c = some i) :
    p.named w = some { resource := .bid i (p.fleetOf i), cost := p.bidCost c i, item := i,
                       tail := toBytes 2 (p.fleetOf i) ++ toBytes 2 c.slot } := by
  simp [Part.named, hw, hc, hi]

/-- Settles O36: the record named is an eligible one; eligibility bounds its depth by 3, and with the bounds on energy and
weight each of the four terms stays in its range. -/
theorem bidCostIsTheDepartureCost : Obligations.BidCostIsTheDepartureCost := by
  intro p c i energyBound weightBound named
  have eligible := eligible_of_nameBid named
  refine ⟨eligible, ?_, fun w hw hc => ⟨_, named_slot hw hc named, rfl, rfl⟩⟩
  obtain ⟨r, n, k, l, d, hr, he, hl, hd, fits, -, -, -, front_or_dug⟩ := eligible_iff.mp eligible
  obtain ⟨E, hE, enough⟩ := fitsSlot_energy fits
  have shallow : d ≤ 3 := by
    obtain rfl | ⟨-, dug⟩ := front_or_dug
    · exact Nat.zero_le 3
    · exact diggable_depth_le dug
  have cost := bidCost_eq (c := c) hr he hl hd hE
  exact ⟨r, n, k, l, d, E, hr, he, hl, hd, hE, shallow, enough, cost,
    cost ▸ departureCost_le shallow (energyBound i r E hr hE) (weightBound n l hl)⟩

end Sys2Proof.Machine
end
